-- ==== Sys2Proof/Word.lean ====
section
/-! DEFINITION. The plain words of the model: bytes, part time, and tables keyed by an element index. -/

namespace Sys2Proof

/-- One byte of a host frame (12 R182). -/
abbrev Byte := BitVec 8

/-- Part time: milliseconds from cold reset, wrapping at 2^32 (00_scope.md 3.2). -/
abbrev PartTime := BitVec 32

/-- A loop address as a loop frame carries it, six bits (12 R186). -/
abbrev LoopAddr := BitVec 6

/-- The levels of the 128 points of one expansion chain; bit n is point n (09 R150, R153). -/
abbrev Levels := BitVec 128

/-- A table or a set of records: (index, entry) pairs with strictly rising indices; an index that is not
listed is absent. -/
abbrev Table (α : Type) := List (Nat × α)

end Sys2Proof
end

