-- ==== Sys2Proof/Config.lean ====
section
/-! DEFINITION. The fixed figures of the spec, each named once. The spec leaves no value of the block open,
so no constant here is without a body. -/

namespace Sys2Proof.Config

/-- A detector's poll period in ms (02 R21). -/
def detectorPollPeriod : Nat := 500
/-- Misses at which a device becomes MISSING (02 R23). -/
def missLimit : Nat := 3
/-- The silence expiry of the loop in ms (02 R29). -/
def silenceTime : Nat := 1000
/-- The retry expiry of the loop in ms (02 R30). -/
def retryTime : Nat := 1000
/-- One attempt of a READ-STATUS in ms (02 R34). -/
def attemptTime : Nat := 20
/-- Attempts of a READ-STATUS (02 R34). -/
def attemptLimit : Nat := 3
/-- The collection window of a detector test in ms (02 R35). -/
def testWindow : Nat := 2000
/-- The TEST-FIRE target that reaches every detector (02 R20). -/
def allDevices : Nat := 63
/-- Loop devices a model may hold (01 R2). -/
def loopDeviceLimit : Nat := 62
/-- The limit of a clamped velocity reading in cm/s (03 R38). -/
def velocityLimit : Nat := 6000
/-- Windows a valve queue holds (04 R54). -/
def windowLimit : Nat := 8
/-- Times a spark ring holds (05 R76). -/
def ringLimit : Nat := 16
/-- Age in ms past which a ring entry leaves its ring (05 R81). -/
def ringAge : Nat := 60000
/-- Age in ms at which an origin's last spark is held (05 R81). -/
def heldAge : Nat := 600000
/-- Incidents the table holds (05 R77). -/
def incidentLimit : Nat := 16
/-- Entries an action list holds (05 R78). -/
def actionLimit : Nat := 24
/-- Further origins an incident may merge (05 R78). -/
def mergedLimit : Nat := 3
/-- The limit of the 16-bit counters. -/
def counterLimit : Nat := 65535
/-- Sectors of the yard ring (08 R134). -/
def sectors : Nat := 16
/-- The test duration in s when no test plan is present (01 R9, 08 R147). -/
def defaultTestTime : Nat := 10
/-- The interval of a clock advance in ms (08 R144). -/
def clockInterval : Nat := 1000
/-- Intact passes for this many ms return a chain to GOOD (09 R154). -/
def chainGoodTime : Nat := 100
/-- The longest gap between bytes of a link frame in ms (11 R171). -/
def byteGap : Nat := 20
/-- The sync byte of a link frame (12 R182). -/
def syncByte : Byte := 0xC3#8
/-- The shortest and longest payload of a link frame (11 R171). -/
def minPayload : Nat := 2
def maxPayload : Nat := 250
/-- Replies the reply queue holds (11 R170). -/
def replyLimit : Nat := 4
/-- Notices the notice queue holds (11 R170). -/
def noticeLimit : Nat := 64
/-- Field points of each direction (09). -/
def points : Nat := 128
/-- The byte that stands for an absent optional index, or for no field and no step (12 R182). -/
def absentByte : Nat := 255

end Sys2Proof.Config
end

