-- ==== Sys2Proof/Syntax.lean ====
section
/-! DEFINITION. The commands of the block: one constructor per row of spec/opcode_table.json. A host request
carries the tag and the body bytes of its frame (12 R182); a loop frame carries its fields in their bit widths
(12 R186); the run-out of a timer names the record that holds it. -/

namespace Sys2Proof

/-- The two serial expansion chains (Chapter 9): the out-chain and the in-chain. -/
inductive Chain where
  | out
  | inp
deriving DecidableEq, Repr

/-- A command of the block: an event taken whole (95_what_each_step_holds.md). -/
inductive Instr where
  /-- Power-on, a supply dip or the RESET input (09 R160). -/
  | coldReset
  /-- A frame with a bad length or a failed check (11 R171). -/
  | linkFrameDiscarded
  /-- More than 20 ms between bytes of a frame (11 R171). -/
  | linkByteGapTimeout
  /-- A valid frame whose kind code names no request (11 R172). -/
  | unknownKind (kind tag : Byte) (body : List Byte)
  /-- The last byte of the oldest reply has been sent (11 R172). -/
  | replySent
  | setup (tag : Byte) (body : List Byte)
  | load (tag : Byte) (body : List Byte)
  | clearConfig (tag : Byte) (body : List Byte)
  | commit (tag : Byte) (body : List Byte)
  | enterConfig (tag : Byte) (body : List Byte)
  | queryDuct (tag : Byte) (body : List Byte)
  | queryValve (tag : Byte) (body : List Byte)
  | queryIncident (tag : Byte) (body : List Byte)
  | queryGroup (tag : Byte) (body : List Byte)
  | queryWall (tag : Byte) (body : List Byte)
  | querySiren (tag : Byte) (body : List Byte)
  | queryLoop (tag : Byte) (body : List Byte)
  | queryLink (tag : Byte) (body : List Byte)
  | fetch (tag : Byte) (body : List Byte)
  | setClock (tag : Byte) (body : List Byte)
  | ack (tag : Byte) (body : List Byte)
  | silence (tag : Byte) (body : List Byte)
  | resetIncident (tag : Byte) (body : List Byte)
  | manualAlarm (tag : Byte) (body : List Byte)
  | releaseWall (tag : Byte) (body : List Byte)
  | reholdWall (tag : Byte) (body : List Byte)
  | restartGroup (tag : Byte) (body : List Byte)
  | stopGroup (tag : Byte) (body : List Byte)
  | testSirens (tag : Byte) (body : List Byte)
  | isolate (tag : Byte) (body : List Byte)
  | restore (tag : Byte) (body : List Byte)
  | walkStart (tag : Byte) (body : List Byte)
  | walkEnd (tag : Byte) (body : List Byte)
  | detectorTest (tag : Byte) (body : List Byte)
  | readDetector (tag : Byte) (body : List Byte)
  | drivePoint (tag : Byte) (body : List Byte)
  | clearValveFail (tag : Byte) (body : List Byte)
  /-- The link timeout runs out (11 R180). -/
  | hostLostExpiry
  /-- The poll period of the device at this address runs out (02 R21). -/
  | pollDue (addr : LoopAddr)
  /-- LC chooses and sends the next controller frame (02 R21). -/
  | loopFrameSlot
  /-- A detector's poll answer with a good check (02 R23). -/
  | detectorPollAnswer (addr : LoopAddr) (soiled fault service : Bool)
  /-- A flow sensor's poll answer with a good check: the raw velocity (02 R23). -/
  | flowSensorAnswer (addr : LoopAddr) (raw : BitVec 16)
  /-- The answer slot after a POLL to this address stayed empty (02 R23). -/
  | pollNoAnswer (addr : LoopAddr)
  /-- A spoiled device frame: in the answer slot of this address, or in a report window (02 R25). -/
  | loopFrameSpoiled (slot : Option LoopAddr)
  /-- A SPARK report with a good check (02 R26); the kind as its two bits (12 R186). -/
  | sparkReport (addr : LoopAddr) (toggle : Bool) (kind : BitVec 2) (age : BitVec 8)
  /-- A STATUS answer with a good check (02 R28); soiling as its seven bits (12 R186). -/
  | statusAnswer (addr : LoopAddr) (fault : BitVec 8) (soiling : BitVec 7)
  /-- No valid device frame for 1 s (02 R29). -/
  | silenceExpiry
  /-- The line driver detects overcurrent (02 R29). -/
  | loopOvercurrent
  /-- The retry expiry runs out while the loop is DOWN (02 R30). -/
  | retryExpiry
  | readStatusAttemptExpiry
  | detectorTestWindowExpiry
  | staleExpiry (duct : Nat)
  | openExpiry (duct : Nat)
  | settleExpiry (duct : Nat)
  | closeExpiry (duct : Nat)
  | travelExpiry (duct : Nat)
  | unackedExpiry (id : Nat)
  | quietExpiry (id : Nat)
  | silenceResoundExpiry (id : Nat)
  | pauseExpiry (group : Nat)
  | stepTimeout (group : Nat)
  | warningExpiry (wall : Nat)
  | doorCloseExpiry (wall door : Nat)
  | damperExpiry (crossing : Nat)
  | cadenceExpiry (siren : Nat)
  | clockAdvance
  | testExpiry
  /-- One pass of the out-chain; whether its integrity pattern came back intact (09 R151, R154). -/
  | outChainPass (intact : Bool)
  /-- One pass of the in-chain: its integrity pattern and the raw levels it carries (09 R153, R154). -/
  | inChainPass (intact : Bool) (levels : Levels)
  | chainGoodExpiry (chain : Chain)
  | debounceExpiry (point : Nat)
  /-- A sample of a sense channel, 0 to 1023 (09 R155). -/
  | monitorSample (channel : Nat) (level : BitVec 10)
  | blankingExpiry (monitor : Nat)
  | walkExpiry (duct : Nat)
  /-- A byte arrives on the link (11 R171). -/
  | linkByteReceived (b : Byte)
  /-- A spark ring entry comes to stand more than 60,000 ms before now (05 R81). -/
  | sparkRingEntryAged (duct : Nat)
  /-- The last spark of an origin duct comes to stand 600,000 ms before now (05 R81). -/
  | lastSparkHeld (duct : Nat)
deriving DecidableEq, Repr

end Sys2Proof
end

