-- ==== Sys2Proof/Machine/State.lean ====
section
/-! DEFINITION. The state of the LF16 as plain data: one structure per block (00_scope.md 2.1), each holding the
records its chapter gives it, with the reset state of R160 and of each chapter's "after cold reset". -/

namespace Sys2Proof.Machine

/-! ## The mill model's entries (Chapter 1) -/

/-- The fourteen tables in the order of Table 1.1. -/
inductive TableId where
  | duct | detector | flow | valve | gate | group | compartment | wall | crossing | siren | pattern | plan | monitor
  | debounce
deriving DecidableEq, Repr

/-- A duct entry (01 R3). -/
structure DuctEntry where
  group : Nat
  compartment : Nat
  infeedOut : Nat
  gatePresent : Bool
  flowAddr : Nat
  vMin : Nat
  vMax : Nat
  tolerance : Nat
  shift : Nat
  staleTime : Nat
  wMax : Nat
  quiet : Nat
  n1 : Nat
  s1 : Nat
  n2 : Nat
  s2 : Nat
  escalation : Nat
  crossings : List Nat
deriving DecidableEq, Repr

/-- The role of a detector (01 R4). -/
inductive Role where
  | upstream | downstream
deriving DecidableEq, Repr

/-- A detector entry (01 R4): d is `dist`, d_g is `gateDist`. -/
structure DetectorEntry where
  addr : Nat
  duct : Nat
  role : Role
  dist : Option Nat
  gateDist : Option Nat
deriving DecidableEq, Repr

/-- A flow sensor entry (01 R4). -/
structure FlowEntry where
  addr : Nat
  duct : Nat
  period : Nat
deriving DecidableEq, Repr

/-- A valve entry (01 R5): lead time L, after-run H, settle time, minimum off-time M. -/
structure ValveEntry where
  output : Nat
  pressureIn : Nat
  lead : Nat
  afterRun : Nat
  settle : Nat
  minOff : Nat
  monitor : Option Nat
deriving DecidableEq, Repr

/-- A gate entry (01 R5): travel time G. -/
structure GateEntry where
  output : Nat
  positionIn : Nat
  travel : Nat
deriving DecidableEq, Repr

/-- A step of a group's list (01 R6). -/
inductive ListStep where
  | drive (output : Nat) (on : Bool)
  | await (input : Nat) (made : Bool) (timeout : Nat)
  | pause (duration : Nat)
  | fan (run : Bool)
  | infeed (release : Bool)
deriving DecidableEq, Repr

/-- An auxiliary point of a group (01 R6). -/
structure AuxPoint where
  output : Nat
  feedback : Option Nat
deriving DecidableEq, Repr

/-- A group entry (01 R6). -/
structure GroupEntry where
  fanOut : Nat
  fanIn : Nat
  fanTimeout : Nat
  aux : List AuxPoint
  shutdown : List ListStep
  restart : List ListStep
deriving DecidableEq, Repr

/-- A compartment entry (01 R7): the siren span and its margin. -/
structure CompartmentEntry where
  spanStart : Nat
  spanEnd : Nat
  margin : Nat
deriving DecidableEq, Repr

/-- A wall entry (01 R8); compartment B is absent for YARD. -/
structure WallEntry where
  compA : Nat
  compB : Option Nat
  warning : Nat
  holderOut : Nat
  beaconOut : Nat
  monitor : Option Nat
  doorTime : Nat
  damperTime : Nat
  doors : List Nat
deriving DecidableEq, Repr

/-- A crossing entry (01 R8). -/
structure CrossingEntry where
  duct : Nat
  wall : Nat
  holdOut : Nat
  closedIn : Nat
deriving DecidableEq, Repr

/-- A siren entry (01 R9). -/
structure SirenEntry where
  sector : Nat
  output : Nat
  monitor : Option Nat
deriving DecidableEq, Repr

/-- A pattern entry (01 R9). -/
structure PatternEntry where
  onTime : Nat
  offTime : Nat
deriving DecidableEq, Repr

/-- The test plan entry (01 R9); bit n of the mask is weekday n. -/
structure PlanEntry where
  weekdays : BitVec 7
  hour : Nat
  minute : Nat
  duration : Nat
  enabled : Bool
deriving DecidableEq, Repr

/-- A monitor entry (01 R10). -/
structure MonitorEntry where
  channel : Nat
  offLow : Nat
  offHigh : Nat
  onLow : Nat
  onHigh : Nat
  filter : Nat
  blanking : Nat
deriving DecidableEq, Repr

/-- The mill model: the fourteen tables of Table 1.1 (01 R1). -/
structure MillModel where
  ducts : Table DuctEntry
  detectors : Table DetectorEntry
  flows : Table FlowEntry
  valves : Table ValveEntry
  gates : Table GateEntry
  groups : Table GroupEntry
  compartments : Table CompartmentEntry
  walls : Table WallEntry
  crossings : Table CrossingEntry
  sirens : Table SirenEntry
  patterns : Table PatternEntry
  plan : Option PlanEntry
  monitors : Table MonitorEntry
  debounce : Table Nat
deriving DecidableEq, Repr

/-- The mill model with every entry absent (01 R1: after cold reset and after CLEAR-CONFIG). -/
def MillModel.empty : MillModel :=
  { ducts := [], detectors := [], flows := [], valves := [], gates := [], groups := [], compartments := [],
    walls := [], crossings := [], sirens := [], patterns := [], plan := none, monitors := [], debounce := [] }

/-! ## LC, the Loop Controller (Chapters 2 and 10) -/

/-- What a roster record is of: a detector with its role, or a flow sensor (02 section 2.2). -/
inductive DeviceKind where
  | detector (role : Role)
  | flow
deriving DecidableEq, Repr

/-- The state of a device record (02 R22). -/
inductive DeviceState where
  | unknown | normal | degraded | missing | isolated
deriving DecidableEq, Repr

/-- The flags of a detector's poll answer (02 R17). -/
structure PollFlags where
  soiled : Bool
  fault : Bool
  service : Bool
deriving DecidableEq, Repr

/-- The content of a STATUS answer (02 R18). -/
structure DeviceStatus where
  fault : BitVec 8
  soiling : Nat
deriving DecidableEq, Repr

/-- A device record (02 R22), with what R21 keeps of its polling: its period, when its poll falls due, and
whether it has fallen due and has not been sent. -/
structure Device where
  kind : DeviceKind
  duct : Nat
  state : DeviceState
  misses : Nat
  flags : Option PollFlags
  toggle : Option Bool
  status : Option DeviceStatus
  withheld : Nat
  period : Nat
  pollAt : PartTime
  pollDue : Bool
deriving DecidableEq, Repr

/-- The loop state (02 R22). -/
inductive LoopState where
  | idle | up | down
deriving DecidableEq, Repr

/-- A controller frame (02 R17). -/
inductive LoopFrame where
  | poll (addr : Nat)
  | ack (addr : Nat) (toggle : Bool)
  | testFire (target mask : LoopAddr)
  | readStatus (addr : Nat)
deriving DecidableEq, Repr

/-- A command in the command slot (02 R32): a READ-STATUS with its attempt (R34), or a detector test (R35).
`frameDue` says that the command's frame is still to be sent. -/
inductive LoopCommand where
  | read (addr : Nat) (automatic : Bool) (attempt : Nat) (frameDue : Bool) (expiry : PartTime)
  | test (target mask : LoopAddr) (frameDue : Bool) (window : Option PartTime) (answered : List Nat)
deriving DecidableEq, Repr

/-- A walk record (10 R167). -/
structure Walk where
  active : Bool
  expiry : Option PartTime
  startedAt : Option PartTime
  sparks : Nat
  seen : List Nat
deriving DecidableEq, Repr

/-- The Loop Controller (02 R22, R29, R30, R32, R33; 10 R167). -/
structure LoopController where
  roster : Table Device
  state : LoopState
  errors : Nat
  foreign : Nat
  silence : Option PartTime
  retry : Option PartTime
  retryPos : Nat
  powered : Bool
  ackOwed : Option (Nat × Bool)
  sent : Option LoopFrame
  answerSlot : Option Nat
  slot : Option LoopCommand
  autoReads : List Nat
  walks : Table Walk
deriving DecidableEq, Repr

/-! ## TC, the Transit Calculator (Chapter 3) -/

/-- The conveying state of a duct (03 R37). -/
inductive Conveying where
  | stale | slow | conveying
deriving DecidableEq, Repr

/-- The outcome of a transit computation (03 R49). -/
inductive TransitOutcome where
  | queued (openAt closeAt : PartTime)
  | missed
deriving DecidableEq, Repr

/-- The transit record of a duct (03 R49). -/
structure Transit where
  detector : Nat
  t0 : PartTime
  computedAt : PartTime
  form : Conveying
  vfUsed : Option Nat
  vHi : Option Nat
  vLo : Option Nat
  tE : Nat
  tL : Nat
  aE : PartTime
  aL : PartTime
  outcome : TransitOutcome
  marginal : Bool
deriving DecidableEq, Repr

/-- The velocity record of a duct (03 R37). -/
structure Velocity where
  vf : Option Nat
  raw : Option Nat
  readAt : Option PartTime
  stale : Option PartTime
  state : Conveying
  transit : Option Transit
deriving DecidableEq, Repr

/-! ## VG, the Valve and Gate Controller (Chapter 4) -/

/-- The state of a valve (04 R54). -/
inductive ValveState where
  | idle | opening | flowing
deriving DecidableEq, Repr

/-- A window of a valve queue (04 R54). -/
structure Window where
  openAt : PartTime
  closeAt : PartTime
  sparks : Nat
deriving DecidableEq, Repr

/-- How a window ended (04 R63). -/
inductive WindowOutcome where
  | flowed | lateFlow | failed | unproven
deriving DecidableEq, Repr

/-- A valve record (04 R54). The availability's cause set is the three flags `circuit`, `failed` and `isolated`
(R55): FAILED is held exactly while the failed flag is set, ISOLATED exactly while the isolated flag is set. -/
structure Valve where
  state : ValveState
  failed : Bool
  circuit : Bool
  isolated : Bool
  queue : List Window
  flowed : Bool
  settleRan : Bool
  openExpiry : Option PartTime
  closeExpiry : Option PartTime
  settleExpiry : Option PartTime
  last : Option (Window × WindowOutcome)
  refusals : Nat
deriving DecidableEq, Repr

/-- The state of a gate (04 R70). -/
inductive GateState where
  | normal | toDivert | diverted | toNormal | jammed
deriving DecidableEq, Repr

/-- A gate record (04 R70): `commanded` is true for DIVERTED; a pending divert names the incident it is owed to. -/
structure Gate where
  state : GateState
  commanded : Bool
  travel : Option PartTime
  isolated : Bool
  pending : Option Nat
deriving DecidableEq, Repr

/-! ## IT, the Incident Table (Chapter 5) -/

/-- The spark state of a duct (05 R76). -/
structure DuctSparks where
  ring : List PartTime
  total : Nat
  wrapped : Bool
deriving DecidableEq, Repr

/-- An origin of an incident: a duct or a compartment (05 R78, R79). -/
inductive OriginId where
  | duct (n : Nat)
  | compartment (n : Nat)
deriving DecidableEq, Repr

/-- An origin record (05 R78). While `held` is set the last spark reads as 600,000 ms before now (R81). -/
structure Origin where
  id : OriginId
  lastSpark : Option PartTime
  held : Bool
  source : Option (Nat × PartTime)
deriving DecidableEq, Repr

/-- The causes of an incident, in the order of R78. -/
inductive Cause where
  | firstSpark | ember | burst | confirm | valveFail | valveUnavailable | missed | gateFail | burstHigh
  | confirmRepeat | unackTimeout | manual
deriving DecidableEq, Repr

/-- The flags of an incident (05 R78). -/
structure IncidentFlags where
  marginal : Bool
  gateLate : Bool
  merged : Bool
  isolatedAction : Bool
  silenced : Bool
deriving DecidableEq, Repr

/-- The kinds of action (05 R78). -/
inductive ActionKind where
  | divert | alert | evacuate | shutdown | release
deriving DecidableEq, Repr

/-- The result of an action (05 R78). -/
inductive ActionResult where
  | pending | done | failed | isolated
deriving DecidableEq, Repr

/-- An action entry (05 R78). -/
structure Action where
  kind : ActionKind
  target : Nat
  issuedAt : PartTime
  result : ActionResult
deriving DecidableEq, Repr

/-- A calendar stamp (05 R78, 08 R144). -/
structure Stamp where
  day : Nat
  weekday : Nat
  hour : Nat
  minute : Nat
  second : Nat
deriving DecidableEq, Repr

/-- An incident record (05 R78). The silence re-sound is held as the part time it runs out at. -/
structure Incident where
  id : Nat
  level : Nat
  acked : Bool
  primary : Origin
  merged : List Origin
  openedAt : PartTime
  stamp : Option Stamp
  lastSpark : Option PartTime
  sparks : Nat
  causes : List Cause
  flags : IncidentFlags
  actions : List Action
  further : Nat
  unacked : Option PartTime
  quiet : Option PartTime
  resound : Option PartTime
deriving DecidableEq, Repr

/-! ## GS, the Group Sequencer (Chapter 6) -/

/-- The state of a group (06 R99). -/
inductive GroupState where
  | running | stopping | stopped | starting
deriving DecidableEq, Repr

/-- The priority of a shutdown demand (06 R99). -/
inductive Priority where
  | normal | immediate
deriving DecidableEq, Repr

/-- The source of a shutdown demand (06 R99, R108). -/
inductive ShutdownSource where
  | incident | pathLost | fanTrip | host | restartFault | restore
deriving DecidableEq, Repr

/-- The two step lists of a group. -/
inductive ListKind where
  | shutdown | restart
deriving DecidableEq, Repr

/-- The step runner of a group (06 R99); steps are counted from 1. -/
structure Runner where
  list : ListKind
  step : Nat
  expiry : Option PartTime
  fanProven : Bool
deriving DecidableEq, Repr

/-- The cause of a fault record (06 R99): TIMEOUT is the only one. -/
inductive FaultCause where
  | timeout
deriving DecidableEq, Repr

/-- A fault record (06 R99). -/
structure FaultRecord where
  list : ListKind
  step : Nat
  cause : FaultCause := .timeout
deriving DecidableEq, Repr

/-- How a run ended (06 R99). -/
inductive RunOutcome where
  | completed | faulted | abandoned
deriving DecidableEq, Repr

/-- The last run of a group (06 R99). -/
structure LastRun where
  list : ListKind
  step : Nat
  outcome : RunOutcome
  endedAt : PartTime
deriving DecidableEq, Repr

/-- A group record (06 R99). -/
structure Group where
  state : GroupState
  priority : Option Priority
  source : Option ShutdownSource
  runner : Option Runner
  fault : Option FaultRecord
  lastRun : Option LastRun
  isolated : Bool
  refusals : Nat
deriving DecidableEq, Repr

/-! ## CC, the Compartment Controller (Chapter 7) -/

/-- The state of a wall (07 R118). -/
inductive WallState where
  | normal | warning | released
deriving DecidableEq, Repr

/-- The cause set of a wall (07 R118). -/
structure WallCauses where
  incident : Bool
  manual : Bool
  circuit : Bool
deriving DecidableEq, Repr

/-- A circuit state (07 R118, 09 R155). -/
inductive Circuit where
  | normal | opened | shorted
deriving DecidableEq, Repr

/-- The state of a door (07 R119). -/
inductive DoorState where
  | openHeld | shut | closing | stuck
deriving DecidableEq, Repr

/-- A door record (07 R119). -/
structure Door where
  state : DoorState
  expiry : Option PartTime
deriving DecidableEq, Repr

/-- A wall record (07 R118) with its door records in the order of the wall entry (R119). -/
structure Wall where
  state : WallState
  causes : WallCauses
  warning : Option PartTime
  holder : Circuit
  isolated : Bool
  refusals : Nat
  releasedAt : Option PartTime
  doors : List Door
deriving DecidableEq, Repr

/-- The state of a crossing (07 R120). -/
inductive CrossingState where
  | opened | closing | closed | jammed
deriving DecidableEq, Repr

/-- A crossing record (07 R120). -/
structure Crossing where
  state : CrossingState
  expiry : Option PartTime
deriving DecidableEq, Repr

/-! ## SC, the Siren Controller (Chapter 8) -/

/-- The patterns, in the order of the pattern table (01 Table 1.1). -/
inductive Pattern where
  | evacuate | alert | test
deriving DecidableEq, Repr

/-- A demand of an incident on a siren (08 R136); `evacuate` is false for ALERT. -/
structure Demand where
  incident : Nat
  evacuate : Bool
  silenced : Bool
deriving DecidableEq, Repr

/-- The cadence phase of a sounding siren (08 R136). -/
inductive Phase where
  | on | off | steady
deriving DecidableEq, Repr

/-- A siren record (08 R136). -/
structure Siren where
  demands : List Demand
  testDemand : Bool
  sounding : Option Pattern
  phase : Option Phase
  cadence : Option PartTime
  fault : Bool
  testFault : Bool
  isolated : Bool
deriving DecidableEq, Repr

/-- The source of a siren test (08 R146). -/
inductive TestSource where
  | scheduled | host
deriving DecidableEq, Repr

/-- The calendar clock (08 R144). -/
structure Clock where
  time : Stamp
  isSet : Bool
deriving DecidableEq, Repr

/-! ## PI and CM (Chapter 9) -/

/-- The integrity state of a chain (09 R154). -/
inductive ChainState where
  | good | faulted
deriving DecidableEq, Repr

/-- A chain's integrity state, and while FAULTED the end of its 100 ms of intact passes (09 R154). -/
structure ChainRecord where
  state : ChainState
  goodAt : Option PartTime
deriving DecidableEq, Repr

/-- The Point Interface (09 R150, R153, R154). A point that `debounced` does not list is unknown; a point
that `timing` lists has a debounce timing in progress since that time; `debounceTime` lists the points whose
debounce time is not 0 because a committed entry gives them one. -/
structure PointInterface where
  out : Levels
  raw : Levels
  debounced : Table Bool
  timing : Table PartTime
  debounceTime : Table Nat
  outChain : ChainRecord
  inChain : ChainRecord
deriving DecidableEq, Repr

/-- A monitor record (09 R155). -/
structure Monitor where
  state : Circuit
  candidate : Option Circuit
  count : Nat
  blanking : Option PartTime
deriving DecidableEq, Repr

/-! ## Notices (11 R177, 12 R184) -/

/-- The classes of a notice, in the order of 12 R184. -/
inductive NoticeClass where
  | alarm | fault | state
deriving DecidableEq, Repr

/-- The kind of a report of a detector (02 R18). -/
inductive ReportKind where
  | spark | ember | test
deriving DecidableEq, Repr

/-- How an incident closed (05 R95). -/
inductive CloseWay where
  | auto | reset | forced
deriving DecidableEq, Repr

/-- The kinds of element that can be isolated, in the order of 12 R182. -/
inductive ElementKind where
  | detector | valve | gate | wall | siren | group
deriving DecidableEq, Repr

/-- TC's findings for an upstream spark (03 R49). -/
structure Findings where
  form : Conveying
  outcome : TransitOutcome
  marginal : Bool
deriving DecidableEq, Repr

/-- Why a scheduled test was skipped (08 R146). -/
inductive SkipReason where
  | incident | testRunning
deriving DecidableEq, Repr

/-- The body of a notice, one form for each kind and event (12 R184, R185), with the items its posting rule
names, in the order named. -/
inductive NoticeBody where
  | spark (duct detector : Nat) (role : Role) (kind : ReportKind) (t0 at_ : PartTime) (incident level : Nat)
      (findings : Option Findings) (unextinguished : Bool)
  | incidentOpened (id : Nat) (origin : OriginId) (level : Nat) (cause : Cause)
  | incidentRisen (id old new : Nat) (causes : List Cause) (origins : List OriginId)
  | incidentAcked (id : Nat)
  | incidentMerged (id : Nat) (origin : OriginId)
  | incidentClosed (id : Nat) (way : CloseWay) (level sparks : Nat) (origins : List OriginId)
  | incidentSilenced (id resound : Nat)
  | incidentResounded (id : Nat)
  | valveFail (duct : Nat) (window : Window)
  | valveRestored (duct : Nat)
  | valveUnproven (duct : Nat) (window : Window)
  | pressureUnexpected (duct : Nat)
  | counterWrap (duct : Nat)
  | groupState (group : Nat) (old new : GroupState) (source : Option ShutdownSource) (run : Option (ListKind × Nat))
  | gateState (duct : Nat) (old new : GateState)
  | deviceState (addr : Nat) (old new : DeviceState)
  | loopState
  | ductBlind (duct : Nat) (seesAgain : Bool)
  | status (addr : Nat) (automatic : Bool) (answer : Option DeviceStatus)
  | loopTestResult (answered notAnswered : List Nat)
  | sirenTestResult (source : TestSource) (faulty : List Nat)
  | ductFlow (duct : Nat) (old new : Conveying) (vf : Option Nat) (readAt : Option PartTime)
  | stepFault (group : Nat) (list : ListKind) (step : Nat) (kind : ListStep) (point : Nat)
  | fanTrip (group : Nat)
  | fanUnexpected (group : Nat)
  | groupRefused (group : Nat) (source : ShutdownSource)
  | wallState (wall : Nat) (old new : WallState) (causes : WallCauses)
  | doorState (wall door : Nat) (new : DoorState)
  | damperState (crossing : Nat) (new : CrossingState)
  | wallRefused (wall incident : Nat)
  | testSkipped (reason : SkipReason)
  | testStarted (source : TestSource) (duration : Nat)
  | testInterrupted (source : TestSource) (faulty : List Nat) (byConfig : Bool)
  | chainState (chain : Chain) (new : ChainState)
  | circuitState (monitor : Nat) (table : TableId) (entry : Nat) (old new : Circuit)
  | isolation (kind : ElementKind) (element : Nat) (isolated : Bool)
  | walkSpark (duct detector : Nat) (role : Role) (kind : ReportKind) (t0 : PartTime)
  | hostLost (since : Option PartTime)
  | walkEnded (duct : Nat) (byExpiry : Bool) (startedAt : Option PartTime) (sparks : Nat) (seen unseen : List Nat)
deriving DecidableEq, Repr

/-- A notice (11 R177). -/
structure Notice where
  seq : BitVec 16
  cls : NoticeClass
  time : PartTime
  body : NoticeBody
deriving DecidableEq, Repr

/-! ## Replies (11 R172, 12 R182) -/

/-- The refusal codes (11, table of refusal codes; 12 R182 numbers them). -/
inductive RefusalCode where
  | busy | owned | interlock | badState | badValue | noSuch | tableFull | notSetUp | unknownKind | loopBusy | wrongMode
deriving DecidableEq, Repr

/-- The reason byte of a refusal's detail (12 R182). -/
inductive Reason where
  | none | notAcked | notQuiet | valveBusy | isolated | incident | testRunning | level1 | inIncident | notWalking
  | holderCircuit | state | field
deriving DecidableEq, Repr

/-- The fault conditions of the FAULT line, in the order of 09 R159. -/
inductive FaultCondition where
  | hostLost | loopDown | detectorMissing | ductBlind | chainFaulted | circuitNotNormal | valveFailed | gateJammed
  | doorStuck | damperJammed | groupFault
deriving DecidableEq, Repr

/-- The part's mode (11 R170). -/
inductive Mode where
  | linkWait | config | run
deriving DecidableEq, Repr

/-- The three discrete output lines (09 R160). -/
structure Lines where
  attn : Bool
  alarm : Bool
  fault : Bool
deriving DecidableEq, Repr

/-- One entry of the incident list of QUERY-INCIDENT (05 R98). -/
structure IncidentBrief where
  id : Nat
  level : Nat
  acked : Bool
  primary : OriginId
deriving DecidableEq, Repr

/-- A crossing as QUERY-WALL returns it (07 R132). -/
structure CrossingView where
  crossing : Nat
  duct : Nat
  state : CrossingState
  expiry : Option PartTime
  level : Option Bool
deriving DecidableEq, Repr

/-- QUERY-LINK's data (11 R181). -/
structure LinkView where
  mode : Mode
  linkTimeout : Nat
  attnThreshold : Nat
  errors : Nat
  hostLost : Bool
  hostLostExpiry : Option PartTime
  notices : Nat
  alarms : Nat
  faults : Nat
  states : Nat
  overrun : Bool
  nextSeq : BitVec 16
  lines : Lines
  conditions : List FaultCondition
  time : PartTime
  clock : Clock
deriving DecidableEq, Repr

/-- QUERY-LOOP's loop record (02 R36). -/
structure LoopView where
  state : LoopState
  errors : Nat
  foreign : Nat
  slot : Option LoopCommand
  autoReads : List Nat
  blind : List Nat
deriving DecidableEq, Repr

/-- The data of an accepted reply, by request. -/
inductive ReplyData where
  | nothing
  /-- SETUP: the mode before and after (11 R174). -/
  | setup (before after : Mode)
  /-- ENTER-CONFIG names the mode (11 R176). -/
  | mode (m : Mode)
  /-- QUERY-DUCT: the velocity part with the transit record, the IT part with the incident, the walk record
  (03 R53, 05 R98, 10 R167). -/
  | duct (velocity : Option Velocity) (sparks : Option DuctSparks) (incident : Option Nat) (walk : Option Walk)
  /-- QUERY-VALVE (04 R69). -/
  | valve (valve : Option Valve) (gate : Option Gate)
  /-- QUERY-INCIDENT with no id (05 R98). -/
  | incidents (list : List IncidentBrief)
  /-- QUERY-INCIDENT with an id: the record as it reads at that part time (05 R98, 12 R183). -/
  | incident (record : Incident) (time : PartTime)
  /-- QUERY-GROUP: record, owned points and auxiliary outputs with levels, feedback inputs with levels (06 R117). -/
  | group (record : Option Group) (owned aux : List (Nat × Bool)) (fan : Option Bool)
      (feedback : List (Nat × Option Bool))
  /-- QUERY-WALL: record, holder, beacon and damper hold levels, door switches, crossings (07 R132). -/
  | wall (record : Option Wall) (holder beacon : Bool) (dampers : List Bool) (switches : List (Option Bool))
      (crossings : List CrossingView)
  /-- QUERY-SIREN with a number: record with sector and output level (08 R149). -/
  | siren (record : Option (Siren × Nat × Bool))
  /-- QUERY-SIREN with no number: the test state, the clock and the committed plan (08 R149). -/
  | sirenTest (test : Option (TestSource × PartTime)) (clock : Clock) (plan : Option PlanEntry)
  /-- QUERY-LOOP, with the record of a device when an address is given (02 R36). -/
  | loop (view : LoopView) (device : Option Device)
  /-- QUERY-LINK (11 R181). -/
  | link (view : LinkView)
  /-- FETCH: the notices returned, the number left, the overrun flag as it stood (11 R178). -/
  | fetched (notices : List Notice) (left : Nat) (overrun : Bool)
  /-- MANUAL-ALARM names the incident (05 R85). -/
  | incidentId (id : Nat)
  /-- RELEASE-WALL and REHOLD-WALL name the wall and its state (07 R122, R129). -/
  | wallState (wall : Nat) (state : WallState)
  /-- RESTART-GROUP and STOP-GROUP name the group and its state (06 R114, R115). -/
  | groupState (group : Nat) (state : GroupState)
  /-- TEST-SIRENS names the duration (08 R147). -/
  | duration (seconds : Nat)
  /-- ISOLATE and RESTORE name the element, by its kind and number, and its isolated flag (10 R161; log 57). -/
  | element (kind : ElementKind) (index : Nat) (isolated : Bool)
  /-- WALK-START names the duct and the expiry (10 R167). -/
  | walk (duct : Nat) (expiry : PartTime)
  /-- DRIVE-POINT names the point and its level (09 R152). -/
  | point (point : Nat) (level : Bool)
deriving DecidableEq, Repr

/-- The status of a reply: accepted with its data, or refused with code, reason and arguments (12 R182). -/
inductive ReplyStatus where
  | accepted (data : ReplyData)
  | refused (code : RefusalCode) (reason : Reason) (args : List Nat)
deriving DecidableEq, Repr

/-- A reply awaiting transmission (11 R172): the request's kind code and tag, and the status. -/
structure Reply where
  kind : Byte
  tag : Byte
  status : ReplyStatus
deriving DecidableEq, Repr

/-! ## LP, the Link Port (Chapter 11) -/

/-- The frame receiver (11 R171). `rest` is how many bytes of payload and check are still awaited;
`taken` holds the bytes after the length byte, oldest first. -/
inductive Receiver where
  | hunting
  | awaitLength (lastAt : PartTime)
  | inFrame (length : Nat) (taken : List Byte) (rest : Nat) (lastAt : PartTime)
deriving DecidableEq, Repr

/-- The Link Port record (11 R170). `hostLost` is the host-lost flag, set with the time the host was lost. -/
structure LinkPort where
  mode : Mode
  linkTimeout : Nat
  attnThreshold : Nat
  errors : Nat
  hostLost : Option PartTime
  hostLostExpiry : Option PartTime
  notices : List Notice
  overrun : Bool
  nextSeq : BitVec 16
  replies : List Reply
  receiver : Receiver
deriving DecidableEq, Repr

/-- VG's records (04 R54, R70). -/
structure ValveGate where
  valves : Table Valve
  gates : Table Gate
deriving DecidableEq, Repr

/-- IT's state (05 R76, R77): the incident table oldest first, the last allocated id, the spark state. -/
structure IncidentTable where
  incidents : List Incident
  lastId : Nat
  sparks : Table DuctSparks
deriving DecidableEq, Repr

/-- CC's records (07 R118-R120). -/
structure Compartments where
  walls : Table Wall
  crossings : Table Crossing
deriving DecidableEq, Repr

/-- SC's state (08 R136, R144, R146): the siren records, the running test with its source and expiry, the calendar
clock and the part time of its next advance. -/
structure SirenController where
  sirens : Table Siren
  test : Option (TestSource × PartTime)
  clock : Clock
  nextAdvance : PartTime
deriving DecidableEq, Repr

/-- The state of the LF16. `pending` is the model's queue of commands that are waiting, first in first out;
`tables` are MM's tables as the host loads them; `model` is the blocks' copy of the committed tables (01 R1). -/
structure State where
  now : PartTime
  pending : List Instr
  lines : Lines
  lp : LinkPort
  tables : MillModel
  model : MillModel
  lc : LoopController
  tc : Table Velocity
  vg : ValveGate
  it : IncidentTable
  gs : Table Group
  cc : Compartments
  sc : SirenController
  pi : PointInterface
  cm : Table Monitor
deriving DecidableEq, Repr

/-- Why the machine stops with a fault. The spec gives every command of the block an effect or a reply, so there is
no such reason: no constructor (safe: nothing stops). -/
inductive Fault where
deriving DecidableEq, Repr

/-- Why a command has no meaning. -/
inductive Refusal where
  /-- Raised by an arm of `exec` for a command that is not modelled yet; safe, since the machine stops. No arm
  raises it. -/
  | notModelled (mnemonic : String)
deriving DecidableEq, Repr

/-- LP after cold reset (11 R170). -/
def LinkPort.reset : LinkPort :=
  { mode := .linkWait, linkTimeout := 0, attnThreshold := 1, errors := 0, hostLost := none, hostLostExpiry := none,
    notices := [], overrun := false, nextSeq := 0#16, replies := [], receiver := .hunting }

/-- LC after cold reset (02 R22, R33; 10 R167). DESIGN CHOICE (log 4): line power off, no ACK owed, no frame
sent, no answer slot open, retry position 0. -/
def LoopController.reset : LoopController :=
  { roster := [], state := .idle, errors := 0, foreign := 0, silence := none, retry := none, retryPos := 0,
    powered := false, ackOwed := none, sent := none, answerSlot := none, slot := none, autoReads := [], walks := [] }

/-- SC after cold reset (08 R136, R144, R146). -/
def SirenController.reset : SirenController :=
  { sirens := [], test := none,
    clock := { time := { day := 0, weekday := 0, hour := 0, minute := 0, second := 0 }, isSet := false },
    nextAdvance := BitVec.ofNat 32 Config.clockInterval }

/-- PI after cold reset (09 R150, R153, R154). DESIGN CHOICE (log 4): raw levels off, since no pass has been
taken; none is read before a pass is. -/
def PointInterface.reset : PointInterface :=
  { out := 0#128, raw := 0#128, debounced := [], timing := [], debounceTime := [],
    outChain := { state := .good, goodAt := none }, inChain := { state := .good, goodAt := none } }

/-- The machine right after cold reset (09 R160 and each chapter's "after cold reset"). -/
def State.reset : State :=
  { now := 0#32, pending := [], lines := { attn := false, alarm := false, fault := false },
    lp := LinkPort.reset, tables := MillModel.empty, model := MillModel.empty, lc := LoopController.reset,
    tc := [], vg := { valves := [], gates := [] }, it := { incidents := [], lastId := 0, sparks := [] }, gs := [],
    cc := { walls := [], crossings := [] }, sc := SirenController.reset, pi := PointInterface.reset, cm := [] }

end Sys2Proof.Machine
end

