-- ==== Sys2Proof/Machine/Ops.lean ====
section
/-! DEFINITION. The named operations every block uses: tables, part time, counters, notices, output and input
points. -/

namespace Sys2Proof.Machine

/-! ## Tables -/

/-- The entry at an index, absent when the index is not listed. -/
def Table.get {α : Type} (t : Table α) (k : Nat) : Option α :=
  match t with
  | [] => none
  | (j, v) :: r => if j = k then some v else Table.get r k

/-- Makes an entry present with a value, replacing the value it held. -/
def Table.put {α : Type} (t : Table α) (k : Nat) (v : α) : Table α :=
  match t with
  | [] => [(k, v)]
  | (j, w) :: r => if k < j then (k, v) :: (j, w) :: r else if k = j then (k, v) :: r else (j, w) :: Table.put r k v

/-- Makes an entry absent. -/
def Table.drop {α : Type} (t : Table α) (k : Nat) : Table α := t.filter fun p => p.1 ≠ k

/-- Changes the entry at an index, if it is present. -/
def Table.modify {α : Type} (t : Table α) (k : Nat) (f : α → α) : Table α :=
  t.map fun p => if p.1 = k then (p.1, f p.2) else p

/-- The canonical form of a table: strictly rising indices. -/
def Table.wf {α : Type} (t : Table α) : Bool :=
  match t with
  | [] => true
  | (j, _) :: r => (r.all fun p => j < p.1) && Table.wf r

/-! ## Part time (00_scope.md 3.2) -/

/-- "A is before B": B − A, read as a signed 32-bit number, is positive. -/
def before (a b : PartTime) : Bool := decide (0 < (b - a).toInt)

/-- A duration in ms as a part-time difference. -/
def ms (n : Nat) : PartTime := BitVec.ofNat 32 n

/-- A duration in s as a part-time difference. -/
def seconds (n : Nat) : PartTime := BitVec.ofNat 32 (n * 1000)

/-- An expiry has run out: it is running and its time is not after now. -/
def due (e : Option PartTime) (now : PartTime) : Bool :=
  match e with
  | none => false
  | some t => !before now t

/-- A stamp stands at least n ms before now (05 R94). -/
def atLeastAgo (t now : PartTime) (n : Nat) : Bool := decide ((n : Int) ≤ (now - t).toInt)

/-- A stamp stands more than n ms before now (05 R81). -/
def moreThanAgo (t now : PartTime) (n : Nat) : Bool := decide ((n : Int) < (now - t).toInt)

/-! ## Counters and sets -/

/-- Raises a counter by 1, saturating at its limit. -/
def satInc (n limit : Nat) : Nat := if n < limit then n + 1 else limit

/-- The sum of two counts, saturating at a limit. -/
def satAdd (a b limit : Nat) : Nat := if a + b < limit then a + b else limit

/-- Adds a number to a set kept as an increasing list, each member at most once. -/
def insertNat (n : Nat) (l : List Nat) : List Nat :=
  match l with
  | [] => [n]
  | x :: r => if n < x then n :: x :: r else if n = x then x :: r else x :: insertNat n r

/-- The members of a list, each once, in the order of their first place. -/
def firstOnly (l : List Nat) : List Nat :=
  l.foldl (fun acc x => if acc.contains x then acc else acc ++ [x]) []

/-! ## Notices (11 R177) -/

/-- The class of which a notice of class c displaces the oldest in a full queue: the lowest class below c that is
present. -/
def displaced (c : NoticeClass) (q : List Notice) : Option NoticeClass :=
  match c with
  | .alarm =>
    if q.any (fun n => n.cls == .state) then some .state
    else if q.any (fun n => n.cls == .fault) then some .fault else none
  | .fault => if q.any (fun n => n.cls == .state) then some .state else none
  | .state => none

/-- Removes the oldest notice of a class. -/
def dropOldest (c : NoticeClass) (q : List Notice) : List Notice :=
  match q with
  | [] => []
  | n :: r => if n.cls = c then r else n :: dropOldest c r

/-- Places a notice in the queue (11 R177): the queue after it, and whether the overrun flag is set by it. -/
def placeNotice (n : Notice) (q : List Notice) : List Notice × Bool :=
  if q.length < Config.noticeLimit then (q ++ [n], false)
  else match displaced n.cls q with
    | some c => (dropOldest c q ++ [n], true)
    | none => (q, true)

/-- A block posts a notice (11 R177): it takes the next sequence number, whether or not it finds room. -/
def postNotice (c : NoticeClass) (b : NoticeBody) (s : State) : State :=
  let placed := placeNotice { seq := s.lp.nextSeq, cls := c, time := s.now, body := b } s.lp.notices
  { s with lp := { s.lp with
      notices := placed.1
      overrun := s.lp.overrun || placed.2
      nextSeq := s.lp.nextSeq + 1#16 } }

/-! ## Output points (09 R150) and the filter restart of their monitors (09 R156) -/

/-- The level of a point in an image. -/
def levelOf (l : Levels) (p : Nat) : Bool := l.getLsbD p

/-- An image with one point at a level; a number past 127 is no point. -/
def setLevel (l : Levels) (p : Nat) (v : Bool) : Levels :=
  if v then l ||| BitVec.twoPow 128 p else l &&& ~~~(BitVec.twoPow 128 p)

/-- The monitor that supervises the circuit of an output: the one named by the valve, wall (holder) or siren entry
that claims the output (01 R10). -/
def monitorOfOutput (m : MillModel) (p : Nat) : Option Nat :=
  ((m.valves.findSome? fun e => if e.2.output = p then e.2.monitor else none).or
    (m.walls.findSome? fun e => if e.2.holderOut = p then e.2.monitor else none)).or
    (m.sirens.findSome? fun e => if e.2.output = p then e.2.monitor else none)

/-- Restarts a monitor's filter at a change of its output's image level (09 R156). -/
def restartFilter (mon : Nat) (s : State) : State :=
  match Table.get s.model.monitors mon with
  | none => s
  | some e =>
    { s with cm := Table.modify s.cm mon fun r => { r with
        candidate := none
        count := 0
        blanking := if e.blanking = 0 then none else some (s.now + ms e.blanking) } }

/-- The owning block writes a level into the output image (09 R150): a write of the level the point already holds
changes nothing; a change restarts the filter of the output's monitor. -/
def writeOut (p : Nat) (v : Bool) (s : State) : State :=
  if levelOf s.pi.out p = v then s
  else
    let s1 := { s with pi := { s.pi with out := setLevel s.pi.out p v } }
    match monitorOfOutput s.model p with
    | none => s1
    | some m => restartFilter m s1

/-- Writes the same level to a list of outputs in order. -/
def writeOuts (ps : List Nat) (v : Bool) (s : State) : State := ps.foldl (fun t p => writeOut p v t) s

/-! ## Input points (09 R153) -/

/-- An input counts as made when its debounced level is made; an unknown level counts as not made (01 R16). -/
def inputMade (s : State) (p : Nat) : Bool := Table.get s.pi.debounced p == some true

/-! ## The committed model's relations -/

/-- The ducts of a group, in duct order (01 R6). -/
def ductsOfGroup (m : MillModel) (g : Nat) : List Nat :=
  (m.ducts.filter fun e => e.2.group = g).map fun e => e.1

/-- The crossings of a wall, in crossing order (07 R120). -/
def crossingsOfWall (m : MillModel) (w : Nat) : List (Nat × CrossingEntry) :=
  m.crossings.filter fun e => e.2.wall = w

/-- The groups with a duct named by a crossing of a wall, each once, in increasing order (07 R123). -/
def groupsCrossing (m : MillModel) (w : Nat) : List Nat :=
  (m.groups.map fun e => e.1).filter fun g =>
    (crossingsOfWall m w).any fun c => (Table.get m.ducts c.2.duct).any fun d => d.group = g

/-- A wall adjoins a compartment (07 R118): its compartment A, and its compartment B unless that is YARD. -/
def adjoins (e : WallEntry) (c : Nat) : Bool := e.compA = c || e.compB = some c

/-- The detector entry that answers on a loop address. -/
def detectorAt (m : MillModel) (addr : Nat) : Option DetectorEntry :=
  (m.detectors.find? fun e => e.2.addr = addr).map fun e => e.2

/-! ## Incidents, read by every block -/

/-- The compartments an origin makes origin compartments of its incident (05 R79). -/
def compartmentOf (m : MillModel) (o : OriginId) : Option Nat :=
  match o with
  | .duct d => (Table.get m.ducts d).map fun e => e.compartment
  | .compartment c => some c

/-- The origin records of an incident, primary first. -/
def originsOf (i : Incident) : List Origin := i.primary :: i.merged

/-- The origin ducts of an incident (05 R79), in origin order. -/
def originDucts (i : Incident) : List Nat :=
  (originsOf i).filterMap fun o => match o.id with
    | .duct d => some d
    | .compartment _ => none

/-- The origin compartments of an incident (05 R79), each once, in origin order. -/
def originCompartments (m : MillModel) (i : Incident) : List Nat :=
  firstOnly ((originsOf i).filterMap fun o => compartmentOf m o.id)

/-- The incident with an id. -/
def findIncident (s : State) (id : Nat) : Option Incident := s.it.incidents.find? fun i => i.id = id

/-- The incident in which an element is an origin (05 R79: at most one). -/
def incidentOf (s : State) (o : OriginId) : Option Incident :=
  s.it.incidents.find? fun i => (originsOf i).any fun r => r.id = o

/-- Changes the incident with an id. -/
def updIncident (id : Nat) (f : Incident → Incident) (s : State) : State :=
  { s with it := { s.it with incidents := s.it.incidents.map fun i => if i.id = id then f i else i } }

/-- The oldest level-3 incident of which a compartment is an origin compartment (05 R79). -/
def level3Over (s : State) (c : Nat) : Option Incident :=
  s.it.incidents.find? fun i => i.level = 3 && (originCompartments s.model i).contains c

/-- The oldest level-3 incident of which a duct is an origin duct. -/
def level3OnDuct (s : State) (d : Nat) : Option Incident :=
  s.it.incidents.find? fun i => i.level = 3 && (originDucts i).contains d

/-- Some incident in the table is at level 2 or 3 (05 R90, 08 R146). -/
def anyRaised (s : State) : Bool := s.it.incidents.any fun i => decide (2 ≤ i.level)

/-! ## Record updates -/

def updDevice (a : Nat) (f : Device → Device) (s : State) : State :=
  { s with lc := { s.lc with roster := Table.modify s.lc.roster a f } }
def updWalk (d : Nat) (f : Walk → Walk) (s : State) : State :=
  { s with lc := { s.lc with walks := Table.modify s.lc.walks d f } }
def updVelocity (d : Nat) (f : Velocity → Velocity) (s : State) : State :=
  { s with tc := Table.modify s.tc d f }
def updValve (d : Nat) (f : Valve → Valve) (s : State) : State :=
  { s with vg := { s.vg with valves := Table.modify s.vg.valves d f } }
def updGate (d : Nat) (f : Gate → Gate) (s : State) : State :=
  { s with vg := { s.vg with gates := Table.modify s.vg.gates d f } }
def updSparks (d : Nat) (f : DuctSparks → DuctSparks) (s : State) : State :=
  { s with it := { s.it with sparks := Table.modify s.it.sparks d f } }
def updGroup (g : Nat) (f : Group → Group) (s : State) : State :=
  { s with gs := Table.modify s.gs g f }
def updWall (w : Nat) (f : Wall → Wall) (s : State) : State :=
  { s with cc := { s.cc with walls := Table.modify s.cc.walls w f } }
def updCrossing (c : Nat) (f : Crossing → Crossing) (s : State) : State :=
  { s with cc := { s.cc with crossings := Table.modify s.cc.crossings c f } }
def updSiren (n : Nat) (f : Siren → Siren) (s : State) : State :=
  { s with sc := { s.sc with sirens := Table.modify s.sc.sirens n f } }
def updMonitor (n : Nat) (f : Monitor → Monitor) (s : State) : State :=
  { s with cm := Table.modify s.cm n f }

end Sys2Proof.Machine
end

