-- ==== Sys2Proof/Machine/Operands.lean ====
section
/-! DEFINITION. The operand forms of the host requests: the body of a frame read by the conventions of 12 R182, and the
kind codes. A body that breaks a convention names the first field at fault (11 R172). -/

namespace Sys2Proof.Machine

/-- The field at fault: its position from 0, or 255 when no one field is named; the step number, or 255. -/
structure FieldError where
  field : Nat
  step : Nat
deriving DecidableEq, Repr

/-- No one field is named: a body that goes on after its last field (log 9). -/
def noField : FieldError := { field := Config.absentByte, step := Config.absentByte }

/-- One byte. -/
def takeByte (e : FieldError) (b : List Byte) : Except FieldError (Nat × List Byte) :=
  match b with
  | x :: r => .ok (x.toNat, r)
  | [] => .error e

/-- Two bytes, most significant first. -/
def takeWord (e : FieldError) (b : List Byte) : Except FieldError (Nat × List Byte) :=
  match b with
  | x :: y :: r => .ok (x.toNat * 256 + y.toNat, r)
  | _ => .error e

/-- Four bytes, most significant first. -/
def takeLong (e : FieldError) (b : List Byte) : Except FieldError (Nat × List Byte) :=
  match b with
  | w :: x :: y :: z :: r => .ok (((w.toNat * 256 + x.toNat) * 256 + y.toNat) * 256 + z.toNat, r)
  | _ => .error e

/-- An enumerated field of n values, numbered from 0 (12 R182). -/
def takeEnum (e : FieldError) (n : Nat) (b : List Byte) : Except FieldError (Nat × List Byte) :=
  match b with
  | x :: r => if x.toNat < n then .ok (x.toNat, r) else .error e
  | [] => .error e

/-- Yes and no: yes is 1, no is 0 (12 R182). -/
def takeYes (e : FieldError) (b : List Byte) : Except FieldError (Bool × List Byte) := do
  let (n, r) ← takeEnum e 2 b
  return (n = 1, r)

/-- A field whose table lists two values, "on or off", "made or not made", "RUN or STOP": the first listed is 0, and
is the one read as true (12 R182; DEDUCED, log 10). -/
def takeFirst (e : FieldError) (b : List Byte) : Except FieldError (Bool × List Byte) := do
  let (n, r) ← takeEnum e 2 b
  return (n = 0, r)

/-- An optional index: 255 when absent (12 R182). -/
def takeOptional (e : FieldError) (b : List Byte) : Except FieldError (Option Nat × List Byte) := do
  let (n, r) ← takeByte e b
  return (if n = Config.absentByte then none else some n, r)

/-- n items, one after the other; the item reader is given the item's number from 1. -/
def takeMany {α : Type} (item : Nat → List Byte → Except FieldError (α × List Byte)) (n k : Nat) (b : List Byte) :
    Except FieldError (List α × List Byte) :=
  match n with
  | 0 => .ok ([], b)
  | n + 1 => do
    let (x, r) ← item k b
    let (xs, r) ← takeMany item n (k + 1) r
    return (x :: xs, r)

/-- A list of varying length: a count byte, at most the list's limit, then that many items (12 R182). -/
def takeList {α : Type} (e : FieldError) (limit : Nat)
    (item : Nat → List Byte → Except FieldError (α × List Byte)) (b : List Byte) :
    Except FieldError (List α × List Byte) := do
  let (n, r) ← takeByte e b
  if limit < n then .error e else takeMany item n 1 r

/-- The body has been read whole: nothing is left. -/
def wholeBody {α : Type} (x : α × List Byte) : Except FieldError α :=
  match x.2 with
  | [] => .ok x.1
  | _ => .error noField

/-- The position of a field, with no step. -/
def atField (n : Nat) : FieldError := { field := n, step := Config.absentByte }

/-! ## Bodies made of plain fields -/

/-- A body with no field. -/
def bodyEmpty (b : List Byte) : Except FieldError Unit := wholeBody ((), b)

/-- A body of one byte. -/
def bodyByte (b : List Byte) : Except FieldError Nat := do
  let x ← takeByte (atField 0) b
  wholeBody x

/-- A body of two bytes. -/
def bodyTwo (b : List Byte) : Except FieldError (Nat × Nat) := do
  let (x, r) ← takeByte (atField 0) b
  let (y, r) ← takeByte (atField 1) r
  wholeBody ((x, y), r)

/-- QUERY-DUCT: duct, clear option as yes or no (05 R98; log 8). -/
def bodyQueryDuct (b : List Byte) : Except FieldError (Nat × Bool) := do
  let (x, r) ← takeByte (atField 0) b
  let (y, r) ← takeYes (atField 1) r
  wholeBody ((x, y), r)

/-- QUERY-INCIDENT: a presence byte and the id (05 R98; log 8). -/
def bodyQueryIncident (b : List Byte) : Except FieldError (Option Nat) := do
  let (p, r) ← takeYes (atField 0) b
  let (x, r) ← takeByte (atField 0) r
  wholeBody (if p then some x else none, r)

/-- QUERY-SIREN and QUERY-LOOP: an optional index (08 R149, 02 R36; log 8). -/
def bodyOptional (b : List Byte) : Except FieldError (Option Nat) := do
  let x ← takeOptional (atField 0) b
  wholeBody x

/-- SILENCE: incident id, re-sound time in s (08 R141). -/
def bodySilence (b : List Byte) : Except FieldError (Nat × Nat) := do
  let (x, r) ← takeByte (atField 0) b
  let (y, r) ← takeWord (atField 1) r
  wholeBody ((x, y), r)

/-- SET-CLOCK: day number, weekday, hour, minute, second (08 R145). -/
def bodyClock (b : List Byte) : Except FieldError Stamp := do
  let (day, r) ← takeWord (atField 0) b
  let (weekday, r) ← takeByte (atField 1) r
  let (hour, r) ← takeByte (atField 2) r
  let (minute, r) ← takeByte (atField 3) r
  let (second, r) ← takeByte (atField 4) r
  wholeBody ({ day, weekday, hour, minute, second }, r)

/-- The element kinds in the order of 12 R182. -/
def elementKinds : List ElementKind := [.detector, .valve, .gate, .wall, .siren, .group]

/-- An element kind: an enumeration of six (12 R182). -/
def takeElement (e : FieldError) (b : List Byte) : Except FieldError (ElementKind × List Byte) := do
  let (k, r) ← takeByte e b
  match elementKinds[k]? with
  | some k => return (k, r)
  | none => .error e

/-- ISOLATE and RESTORE: element kind, element. A kind byte beyond the six is a fault of encoding, which 11 R172 judges
before the owner's own rule (log 13). -/
def bodyElement (b : List Byte) : Except FieldError (ElementKind × Nat) := do
  let (k, r) ← takeElement (atField 0) b
  let (x, r) ← takeByte (atField 1) r
  wholeBody ((k, x), r)

/-- DRIVE-POINT: output point, level (09 R152). -/
def bodyPoint (b : List Byte) : Except FieldError (Nat × Bool) := do
  let (x, r) ← takeByte (atField 0) b
  let (y, r) ← takeFirst (atField 1) r
  wholeBody ((x, y), r)

/-! ## LOAD (01 R2, 12 R182) -/

/-- The fields of a table entry as LOAD carries them. -/
inductive Entry where
  | duct (e : DuctEntry)
  | detector (e : DetectorEntry)
  | flow (e : FlowEntry)
  | valve (e : ValveEntry)
  | gate (e : GateEntry)
  | group (e : GroupEntry)
  | compartment (e : CompartmentEntry)
  | wall (e : WallEntry)
  | crossing (e : CrossingEntry)
  | siren (e : SirenEntry)
  | pattern (e : PatternEntry)
  | plan (e : PlanEntry)
  | monitor (e : MonitorEntry)
  | debounce (time : Nat)
deriving DecidableEq, Repr

/-- The tables in the order of Table 1.1. -/
def tableIds : List TableId :=
  [.duct, .detector, .flow, .valve, .gate, .group, .compartment, .wall, .crossing, .siren, .pattern, .plan, .monitor,
    .debounce]

/-- The number of a table in the order of Table 1.1 (12 R182). -/
def tableNumber (t : TableId) : Nat := tableIds.findIdx fun x => x == t

/-- How many entries a table has (01 Table 1.1). -/
def tableSize (t : TableId) : Nat :=
  match t with
  | .duct => 16 | .detector => 48 | .flow => 16 | .valve => 16 | .gate => 16 | .group => 6 | .compartment => 8
  | .wall => 12 | .crossing => 24 | .siren => 16 | .pattern => 3 | .plan => 1 | .monitor => 48 | .debounce => 128

/-- One step of a step list: its kind, then the fields of that kind (12 R182); an error names the list's field and
the step. -/
def takeStep (field k : Nat) (b : List Byte) : Except FieldError (ListStep × List Byte) := do
  let e : FieldError := { field := field, step := k }
  let (kind, r) ← takeEnum e 5 b
  match kind with
  | 0 => do
    let (p, r) ← takeByte e r
    let (on, r) ← takeFirst e r
    return (.drive p on, r)
  | 1 => do
    let (p, r) ← takeByte e r
    let (made, r) ← takeFirst e r
    let (t, r) ← takeWord e r
    return (.await p made t, r)
  | 2 => do
    let (d, r) ← takeWord e r
    return (.pause d, r)
  | 3 => do
    let (run, r) ← takeFirst e r
    return (.fan run, r)
  | _ => do
    let (stop, r) ← takeFirst e r
    return (.infeed (!stop), r)

/-- One auxiliary point: its output, then its feedback input or 255 (12 R182). -/
def takeAux (_k : Nat) (b : List Byte) : Except FieldError (AuxPoint × List Byte) := do
  let (o, r) ← takeByte (atField 3) b
  let (f, r) ← takeOptional (atField 3) r
  return ({ output := o, feedback := f }, r)

def takeDuct (b : List Byte) : Except FieldError (Entry × List Byte) := do
  let (group, r) ← takeByte (atField 0) b
  let (compartment, r) ← takeByte (atField 1) r
  let (infeedOut, r) ← takeByte (atField 2) r
  let (gatePresent, r) ← takeYes (atField 3) r
  let (flowAddr, r) ← takeByte (atField 4) r
  let (vMin, r) ← takeWord (atField 5) r
  let (vMax, r) ← takeWord (atField 6) r
  let (tolerance, r) ← takeByte (atField 7) r
  let (shift, r) ← takeByte (atField 8) r
  let (staleTime, r) ← takeWord (atField 9) r
  let (wMax, r) ← takeWord (atField 10) r
  let (quiet, r) ← takeLong (atField 11) r
  let (n1, r) ← takeByte (atField 12) r
  let (s1, r) ← takeWord (atField 12) r
  let (n2, r) ← takeByte (atField 13) r
  let (s2, r) ← takeWord (atField 13) r
  let (escalation, r) ← takeWord (atField 14) r
  let (crossings, r) ← takeList (atField 15) 3 (fun _ => takeByte (atField 15)) r
  return (.duct { group, compartment, infeedOut, gatePresent, flowAddr, vMin, vMax, tolerance, shift, staleTime, wMax,
                  quiet, n1, s1, n2, s2, escalation, crossings }, r)

/-- A detector: a presence byte for d (bit 0) and d_g (bit 1) leads its fields (12 R182). A fault in that byte names no
field of the entry and is given as 255 (DESIGN CHOICE, log 9). -/
def takeDetector (b : List Byte) : Except FieldError (Entry × List Byte) := do
  let (present, r) ← takeEnum noField 4 b
  let (addr, r) ← takeByte (atField 0) r
  let (duct, r) ← takeByte (atField 1) r
  let (up, r) ← takeFirst (atField 2) r
  let (d, r) ← takeWord (atField 3) r
  let (dg, r) ← takeWord (atField 4) r
  return (.detector { addr, duct, role := if up then .upstream else .downstream,
                      dist := if present % 2 = 1 then some d else none,
                      gateDist := if 2 ≤ present then some dg else none }, r)

def takeFlow (b : List Byte) : Except FieldError (Entry × List Byte) := do
  let (addr, r) ← takeByte (atField 0) b
  let (duct, r) ← takeByte (atField 1) r
  let (period, r) ← takeWord (atField 2) r
  return (.flow { addr, duct, period }, r)

def takeValve (b : List Byte) : Except FieldError (Entry × List Byte) := do
  let (output, r) ← takeByte (atField 0) b
  let (pressureIn, r) ← takeByte (atField 1) r
  let (lead, r) ← takeWord (atField 2) r
  let (afterRun, r) ← takeWord (atField 3) r
  let (settle, r) ← takeWord (atField 4) r
  let (minOff, r) ← takeWord (atField 5) r
  let (monitor, r) ← takeOptional (atField 6) r
  return (.valve { output, pressureIn, lead, afterRun, settle, minOff, monitor }, r)

def takeGate (b : List Byte) : Except FieldError (Entry × List Byte) := do
  let (output, r) ← takeByte (atField 0) b
  let (positionIn, r) ← takeByte (atField 1) r
  let (travel, r) ← takeWord (atField 2) r
  return (.gate { output, positionIn, travel }, r)

def takeGroup (b : List Byte) : Except FieldError (Entry × List Byte) := do
  let (fanOut, r) ← takeByte (atField 0) b
  let (fanIn, r) ← takeByte (atField 1) r
  let (fanTimeout, r) ← takeByte (atField 2) r
  let (aux, r) ← takeList (atField 3) 8 takeAux r
  let (shutdown, r) ← takeList (atField 4) 12 (takeStep 4) r
  let (restart, r) ← takeList (atField 5) 12 (takeStep 5) r
  return (.group { fanOut, fanIn, fanTimeout, aux, shutdown, restart }, r)

def takeCompartment (b : List Byte) : Except FieldError (Entry × List Byte) := do
  let (spanStart, r) ← takeByte (atField 0) b
  let (spanEnd, r) ← takeByte (atField 1) r
  let (margin, r) ← takeByte (atField 2) r
  return (.compartment { spanStart, spanEnd, margin }, r)

/-- A wall: compartment B is an enumerated field, 0 to 7 a compartment and 8 YARD; a value beyond is refused before the
wall's index is looked at (12 R182, 11 R172). -/
def takeWall (b : List Byte) : Except FieldError (Entry × List Byte) := do
  let (compA, r) ← takeByte (atField 0) b
  let (compB, r) ← takeEnum (atField 1) 9 r
  let (warning, r) ← takeByte (atField 2) r
  let (holderOut, r) ← takeByte (atField 3) r
  let (beaconOut, r) ← takeByte (atField 4) r
  let (monitor, r) ← takeOptional (atField 5) r
  let (doorTime, r) ← takeByte (atField 6) r
  let (damperTime, r) ← takeByte (atField 7) r
  let (doors, r) ← takeList (atField 8) 4 (fun _ => takeByte (atField 8)) r
  return (.wall { compA, compB := if compB = 8 then none else some compB, warning, holderOut, beaconOut, monitor,
                  doorTime, damperTime, doors }, r)

def takeCrossing (b : List Byte) : Except FieldError (Entry × List Byte) := do
  let (duct, r) ← takeByte (atField 0) b
  let (wall, r) ← takeByte (atField 1) r
  let (holdOut, r) ← takeByte (atField 2) r
  let (closedIn, r) ← takeByte (atField 3) r
  return (.crossing { duct, wall, holdOut, closedIn }, r)

def takeSiren (b : List Byte) : Except FieldError (Entry × List Byte) := do
  let (sector, r) ← takeByte (atField 0) b
  let (output, r) ← takeByte (atField 1) r
  let (monitor, r) ← takeOptional (atField 2) r
  return (.siren { sector, output, monitor }, r)

def takePattern (b : List Byte) : Except FieldError (Entry × List Byte) := do
  let (onTime, r) ← takeWord (atField 0) b
  let (offTime, r) ← takeWord (atField 1) r
  return (.pattern { onTime, offTime }, r)

/-- The test plan: bit 7 of the weekday mask has no member (12 R182). -/
def takePlan (b : List Byte) : Except FieldError (Entry × List Byte) := do
  let (weekdays, r) ← takeEnum (atField 0) 128 b
  let (hour, r) ← takeByte (atField 1) r
  let (minute, r) ← takeByte (atField 2) r
  let (duration, r) ← takeByte (atField 3) r
  let (enabled, r) ← takeYes (atField 4) r
  return (.plan { weekdays := BitVec.ofNat 7 weekdays, hour, minute, duration, enabled }, r)

def takeMonitor (b : List Byte) : Except FieldError (Entry × List Byte) := do
  let (channel, r) ← takeByte (atField 0) b
  let (offLow, r) ← takeWord (atField 1) r
  let (offHigh, r) ← takeWord (atField 1) r
  let (onLow, r) ← takeWord (atField 2) r
  let (onHigh, r) ← takeWord (atField 2) r
  let (filter, r) ← takeByte (atField 3) r
  let (blanking, r) ← takeWord (atField 4) r
  return (.monitor { channel, offLow, offHigh, onLow, onHigh, filter, blanking }, r)

def takeDebounce (b : List Byte) : Except FieldError (Entry × List Byte) := do
  let (time, r) ← takeByte (atField 0) b
  return (.debounce time, r)

/-- The fields of an entry of a table (12 R182: "the entry's fields in the order of its field table"). -/
def takeEntry (t : TableId) (b : List Byte) : Except FieldError (Entry × List Byte) :=
  match t with
  | .duct => takeDuct b
  | .detector => takeDetector b
  | .flow => takeFlow b
  | .valve => takeValve b
  | .gate => takeGate b
  | .group => takeGroup b
  | .compartment => takeCompartment b
  | .wall => takeWall b
  | .crossing => takeCrossing b
  | .siren => takeSiren b
  | .pattern => takePattern b
  | .plan => takePlan b
  | .monitor => takeMonitor b
  | .debounce => takeDebounce b

/-- A LOAD as its body names it: the table, the index, and the entry, absent to make the entry absent. -/
structure LoadRequest where
  table : TableId
  index : Nat
  entry : Option Entry
deriving DecidableEq, Repr

/-- The arguments of a LOAD refused BAD-VALUE: table, entry index, field position, step number or 255 (12 R182). -/
def loadArgs (table index : Nat) (e : FieldError) : List Nat := [table, index, e.field, e.step]

/-- The LOAD body: table, entry index, present byte, and when that is 1 the entry's fields (12 R182). A fault in
the first three names no field of the entry; what has not been read is given as 255 (log 9). -/
def bodyLoad (b : List Byte) : Except (List Nat) LoadRequest :=
  match b with
  | [] => .error (loadArgs Config.absentByte Config.absentByte noField)
  | [t] => .error (loadArgs t.toNat Config.absentByte noField)
  | [t, i] => .error (loadArgs t.toNat i.toNat noField)
  | t :: i :: p :: r =>
    match tableIds[t.toNat]? with
    | none => .error (loadArgs t.toNat i.toNat noField)
    | some table =>
      if p = 0#8 then
        match r with
        | [] => .ok { table := table, index := i.toNat, entry := none }
        | _ => .error (loadArgs t.toNat i.toNat noField)
      else if p = 1#8 then
        match (takeEntry table r).bind wholeBody with
        | .ok e => .ok { table := table, index := i.toNat, entry := some e }
        | .error e => .error (loadArgs t.toNat i.toNat e)
      else .error (loadArgs t.toNat i.toNat noField)

/-! ## Request kinds (12 R182) -/

/-- The 32 requests of the kind code table of 12 R182. -/
inductive ReqKind where
  | setup | load | clearConfig | commit | enterConfig | queryDuct | queryValve | queryIncident | queryGroup | queryWall
  | querySiren | queryLoop | queryLink | fetch | setClock | ack | silence | resetIncident | manualAlarm | releaseWall
  | reholdWall | restartGroup | stopGroup | testSirens | isolate | restore | walkStart | walkEnd | detectorTest
  | readDetector | drivePoint | clearValveFail
deriving DecidableEq, Repr

/-- The kind code of a request (12 R182). -/
def kindCode (k : ReqKind) : Nat :=
  match k with
  | .setup => 1 | .load => 2 | .clearConfig => 3 | .commit => 4 | .enterConfig => 5
  | .queryDuct => 16 | .queryValve => 17 | .queryIncident => 18 | .queryGroup => 19 | .queryWall => 20
  | .querySiren => 21 | .queryLoop => 22 | .queryLink => 23 | .fetch => 24 | .setClock => 25
  | .ack => 32 | .silence => 33 | .resetIncident => 34 | .manualAlarm => 35
  | .releaseWall => 40 | .reholdWall => 41 | .restartGroup => 42 | .stopGroup => 43 | .testSirens => 44
  | .isolate => 48 | .restore => 49 | .walkStart => 50 | .walkEnd => 51 | .detectorTest => 52 | .readDetector => 53
  | .drivePoint => 56 | .clearValveFail => 57

/-- Every request kind. -/
def allKinds : List ReqKind :=
  [.setup, .load, .clearConfig, .commit, .enterConfig, .queryDuct, .queryValve, .queryIncident, .queryGroup, .queryWall,
    .querySiren, .queryLoop, .queryLink, .fetch, .setClock, .ack, .silence, .resetIncident, .manualAlarm, .releaseWall,
    .reholdWall, .restartGroup, .stopGroup, .testSirens, .isolate, .restore, .walkStart, .walkEnd, .detectorTest,
    .readDetector, .drivePoint, .clearValveFail]

/-- The request a kind code names, if any (12 R182: a code outside the table is answered UNKNOWN-KIND). -/
def kindOfCode (code : Byte) : Option ReqKind := allKinds.find? fun k => kindCode k = code.toNat

/-- The refusal a request gets for the mode it arrives in, if any (11 R173). -/
def modeRefusal (k : ReqKind) (m : Mode) : Option RefusalCode :=
  match m with
  | .linkWait => if k = .setup then none else some .notSetUp
  | .config =>
    match k with
    | .setup | .load | .clearConfig | .commit | .queryDuct | .queryValve | .queryIncident | .queryGroup | .queryWall
    | .querySiren | .queryLoop | .queryLink | .fetch | .setClock => none
    | _ => some .wrongMode
  | .run =>
    match k with
    | .load | .clearConfig | .commit => some .wrongMode
    | _ => none

end Sys2Proof.Machine
end

