-- ==== Sys2Proof/WellFormed.lean ====
section
/-! DEFINITION. When a command is one that the outside can send: its operands lie in the ranges the spec gives them. -/

namespace Sys2Proof

/-- A request's body fits a frame: the payload is 2 to 250 bytes, its kind and tag among them (11 R171, 12 R182). -/
def bodyFits (body : List Byte) : Bool := decide (body.length + Config.minPayload ≤ Config.maxPayload)

/-- A device answers on an address from 1 to 62 (02 R17). -/
def isDevice (a : LoopAddr) : Bool := decide (1 ≤ a.toNat ∧ a.toNat ≤ Config.loopDeviceLimit)

/-- A duct's index (01 Table 1.1). -/
def isDuct (d : Nat) : Bool := decide (d < 16)

/-- An incident's id (05 R77). -/
def isIncidentId (n : Nat) : Bool := decide (1 ≤ n ∧ n ≤ 255)

/-- A well-formed command. -/
def WellFormed (i : Instr) : Bool :=
  match i with
  | .unknownKind kind _ body => bodyFits body && (Machine.kindOfCode kind).isNone
  | .setup _ b | .load _ b | .clearConfig _ b | .commit _ b | .enterConfig _ b | .queryDuct _ b | .queryValve _ b
  | .queryIncident _ b | .queryGroup _ b | .queryWall _ b | .querySiren _ b | .queryLoop _ b | .queryLink _ b
  | .fetch _ b | .setClock _ b | .ack _ b | .silence _ b | .resetIncident _ b | .manualAlarm _ b | .releaseWall _ b
  | .reholdWall _ b | .restartGroup _ b | .stopGroup _ b | .testSirens _ b | .isolate _ b | .restore _ b
  | .walkStart _ b | .walkEnd _ b | .detectorTest _ b | .readDetector _ b | .drivePoint _ b | .clearValveFail _ b =>
    bodyFits b
  | .pollDue a => isDevice a
  | .detectorPollAnswer a _ _ _ => isDevice a
  | .flowSensorAnswer a _ => isDevice a
  | .pollNoAnswer a => isDevice a
  | .loopFrameSpoiled slot => slot.all isDevice
  | .staleExpiry d | .openExpiry d | .settleExpiry d | .closeExpiry d | .travelExpiry d | .walkExpiry d
  | .sparkRingEntryAged d | .lastSparkHeld d => isDuct d
  | .unackedExpiry n | .quietExpiry n | .silenceResoundExpiry n => isIncidentId n
  | .pauseExpiry g | .stepTimeout g => decide (g < 6)
  | .warningExpiry w => decide (w < 12)
  | .doorCloseExpiry w d => decide (w < 12 ∧ 1 ≤ d ∧ d ≤ 4)
  | .damperExpiry c => decide (c < 24)
  | .cadenceExpiry n => decide (n < 16)
  | .debounceExpiry p => decide (p < Config.points)
  | .monitorSample c _ => decide (c < 48)
  | .blankingExpiry m => decide (m < 48)
  | .coldReset | .linkFrameDiscarded | .linkByteGapTimeout | .replySent | .hostLostExpiry | .loopFrameSlot
  | .sparkReport .. | .statusAnswer .. | .silenceExpiry | .loopOvercurrent | .retryExpiry | .readStatusAttemptExpiry
  | .detectorTestWindowExpiry | .clockAdvance | .testExpiry | .outChainPass _ | .inChainPass .. | .chainGoodExpiry _
  | .linkByteReceived _ => true

end Sys2Proof
end

