-- ==== Sys2Proof/Decode.lean ====
section
/-! DEFINITION. The table's decoder. The spec's opcode table gives no row any bits: a command is an event, not a
word. -/

namespace Sys2Proof

/-- The command that a word spells by the table's bits: none, since no row gives bits. -/
def decodeTableWord (_nbits _w : Nat) : Option Instr := none

end Sys2Proof
end

