-- ==== Sys2Proof/Machine/Flags.lean ====
section
/-! DEFINITION. The fault conditions and the three discrete lines (05 R90, 09 R159, 11 R179), and the end of every
command: the lines judged on the state it leaves. -/

namespace Sys2Proof.Machine

/-- A device record is one that cannot report: MISSING or ISOLATED (02 R31). -/
def cannotReport (d : Device) : Bool := d.state == .missing || d.state == .isolated

/-- A duct is blind while every UPSTREAM detector of it is MISSING or ISOLATED (02 R31). A duct with no UPSTREAM
detector in the roster is not judged; DEVICES (01 R12) commits none. -/
def ductBlind (s : State) (duct : Nat) : Bool :=
  let ups := s.lc.roster.filter fun e => e.2.duct = duct && e.2.kind == .detector .upstream
  !ups.isEmpty && ups.all fun e => cannotReport e.2

/-- The list of blind ducts (02 R36). -/
def blindDucts (s : State) : List Nat := (s.model.ducts.map fun e => e.1).filter fun d => ductBlind s d

/-- A device record presents "detector missing" (02 R23). -/
def presentsMissing (d : Device) : Bool :=
  match d.kind with
  | .flow => false
  | .detector _ => d.state == .missing || (d.state == .isolated && decide (d.misses = Config.missLimit))

/-- Whether a fault condition is presented to the FAULT line (09 R159). -/
def presented (s : State) (c : FaultCondition) : Bool :=
  match c with
  | .hostLost => s.lp.hostLost.isSome
  | .loopDown => s.lc.state == .down
  | .detectorMissing => s.lc.roster.any fun e => presentsMissing e.2
  | .ductBlind => !(blindDucts s).isEmpty
  | .chainFaulted => s.pi.outChain.state == .faulted || s.pi.inChain.state == .faulted
  | .circuitNotNormal => s.cm.any fun e => e.2.state != .normal
  | .valveFailed => s.vg.valves.any fun e => e.2.failed
  | .gateJammed => s.vg.gates.any fun e => e.2.state == .jammed
  | .doorStuck => s.cc.walls.any fun e => e.2.doors.any fun d => d.state == .stuck
  | .damperJammed => s.cc.crossings.any fun e => e.2.state == .jammed
  | .groupFault => s.gs.any fun e => e.2.fault.isSome

/-- The fault conditions in the order of R159. -/
def allConditions : List FaultCondition :=
  [.hostLost, .loopDown, .detectorMissing, .ductBlind, .chainFaulted, .circuitNotNormal, .valveFailed, .gateJammed,
    .doorStuck, .damperJammed, .groupFault]

/-- The fault conditions presently presented (09 R159, 11 R181). -/
def conditions (s : State) : List FaultCondition := allConditions.filter fun c => presented s c

/-- ATTN is on exactly when the queue holds at least the threshold count or any ALARM notice (11 R179). -/
def attnOf (lp : LinkPort) : Bool :=
  decide (lp.attnThreshold ≤ lp.notices.length) || lp.notices.any fun n => n.cls == .alarm

/-- The three lines as the rules give them for a state (05 R90, 09 R159, 11 R179). -/
def judgeLines (s : State) : Lines :=
  { attn := attnOf s.lp, alarm := anyRaised s, fault := !(conditions s).isEmpty }

/-- The state with its lines as the rules give them. -/
def settleLines (s : State) : State := { s with lines := judgeLines s }

/-- The end of a command: its next state, with the lines judged in the same event (log 31). -/
def taken (s : State) : Host.Outcome State Fault Refusal := .next (settleLines s)

end Sys2Proof.Machine
end

