-- ==== Sys2Proof/Machine/Layouts.lean ====
section
/-! DEFINITION. The byte and bit layouts of Chapter 12: the link check and frame envelope, the incident record, the
notice record, the data of the replies, and the loop frames with their check. -/

namespace Sys2Proof.Machine

/-! ## Encoding (12 R182) -/

/-- The lowest 8 bits of a number as a byte. -/
def byteOf (n : Nat) : Byte := BitVec.ofNat 8 n

/-- A two-byte integer, most significant byte first. -/
def bytes2 (n : Nat) : List Byte := [byteOf (n / 256), byteOf n]

/-- A four-byte integer, most significant byte first. -/
def bytes4 (n : Nat) : List Byte := bytes2 (n / 65536) ++ bytes2 (n % 65536)

/-- A part time. -/
def bytesTime (t : PartTime) : List Byte := bytes4 t.toNat

/-- Yes is 1 and no is 0. -/
def byteYes (b : Bool) : Byte := if b then 1#8 else 0#8

/-- A field whose table lists "on or off" or "made or not made": the first listed is 0 (log 10). -/
def byteLevel (b : Bool) : Byte := if b then 0#8 else 1#8

/-- The input levels made, not made and unknown, numbered in the order of 09 R153. -/
def byteInput (l : Option Bool) : Byte :=
  match l with
  | some true => 0#8
  | some false => 1#8
  | none => 2#8

/-- A list: a count byte and that many items. -/
def bytesList (l : List (List Byte)) : List Byte := byteOf l.length :: l.flatten

/-- A list of one-byte items. -/
def bytesNats (l : List Nat) : List Byte := bytesList (l.map fun n => [byteOf n])

/-- A set as a number: bit n stands for the n-th listed member. -/
def maskOf (members : List Bool) : Nat :=
  members.foldr (fun m acc => acc * 2 + (if m then 1 else 0)) 0

/-- The bytes of a field that may be absent: its bytes, or as many zero bytes. -/
def bytesOr (n : Nat) (o : Option (List Byte)) : List Byte := o.getD (List.replicate n 0#8)

/-- The position of a value in an enumeration. -/
def rankIn {α : Type} [DecidableEq α] (l : List α) (x : α) : Byte := byteOf (l.findIdx fun y => y == x)

def byteMode (m : Mode) : Byte := rankIn [.linkWait, .config, .run] m
def byteClass (c : NoticeClass) : Byte := rankIn [.alarm, .fault, .state] c
def byteDevice (x : DeviceState) : Byte := rankIn [.unknown, .normal, .degraded, .missing, .isolated] x
def byteRole (x : Role) : Byte := rankIn [.upstream, .downstream] x
def byteReport (x : ReportKind) : Byte := rankIn [.spark, .ember, .test] x
def byteConveying (x : Conveying) : Byte := rankIn [.stale, .slow, .conveying] x
/-- The form of a transit, in the order of the transit record's table (03 R49): CONVEYING, STALE, SLOW. -/
def byteForm (x : Conveying) : Byte := rankIn [.conveying, .stale, .slow] x
def byteValve (x : ValveState) : Byte := rankIn [.idle, .opening, .flowing] x
def byteWindowOutcome (x : WindowOutcome) : Byte := rankIn [.flowed, .lateFlow, .failed, .unproven] x
def byteGate (x : GateState) : Byte := rankIn [.normal, .toDivert, .diverted, .toNormal, .jammed] x
def byteGroup (x : GroupState) : Byte := rankIn [.running, .stopping, .stopped, .starting] x
def byteSource (x : ShutdownSource) : Byte :=
  rankIn [.incident, .pathLost, .fanTrip, .host, .restartFault, .restore] x
def byteListKind (x : ListKind) : Byte := rankIn [.shutdown, .restart] x
def byteWall (x : WallState) : Byte := rankIn [.normal, .warning, .released] x
def byteDoor (x : DoorState) : Byte := rankIn [.openHeld, .shut, .closing, .stuck] x
def byteCrossing (x : CrossingState) : Byte := rankIn [.opened, .closing, .closed, .jammed] x
def byteCircuit (x : Circuit) : Byte := rankIn [.normal, .opened, .shorted] x
def byteElement (x : ElementKind) : Byte := rankIn elementKinds x

/-- The causes of an incident in the order of 05 R78. -/
def allCauses : List Cause :=
  [.firstSpark, .ember, .burst, .confirm, .valveFail, .valveUnavailable, .missed, .gateFail, .burstHigh,
    .confirmRepeat, .unackTimeout, .manual]

/-- A cause set: two bytes, FIRST-SPARK in bit 0 (12 R182). -/
def bytesCauses (l : List Cause) : List Byte := bytes2 (maskOf (allCauses.map fun c => l.contains c))

/-- The incident flags: one byte, MARGINAL in bit 0 (12 R182). -/
def byteFlags (f : IncidentFlags) : Byte :=
  byteOf (maskOf [f.marginal, f.gateLate, f.merged, f.isolatedAction, f.silenced])

/-- A wall's cause set: INCIDENT, MANUAL, CIRCUIT. -/
def byteWallCauses (c : WallCauses) : Byte := byteOf (maskOf [c.incident, c.manual, c.circuit])

/-- An origin: bit 7 set for COMPARTMENT, the index in bits 0 to 6 (12 R183). DESIGN CHOICE (logs 23 and 24): an origin in
an INCIDENT notice and in the list of QUERY-INCIDENT takes the same form. -/
def byteOrigin (o : OriginId) : Byte :=
  match o with
  | .duct n => byteOf n
  | .compartment n => byteOf (128 + n)

/-- A calendar stamp: day number (2), weekday, hour, minute, second (12 R183). -/
def bytesStamp (t : Stamp) : List Byte :=
  bytes2 t.day ++ [byteOf t.weekday, byteOf t.hour, byteOf t.minute, byteOf t.second]

/-- A window: open, close, spark count. -/
def bytesWindow (w : Window) : List Byte := bytesTime w.openAt ++ bytesTime w.closeAt ++ bytes2 w.sparks

/-! ## The incident record (12 R183) -/

/-- An origin's last spark as it reads now: held at 600,000 ms before now once it is held (05 R81). -/
def lastSparkOf (o : Origin) (now : PartTime) : Option PartTime :=
  if o.held then some (now - ms Config.heldAge) else o.lastSpark

/-- One origin of the incident record, 10 bytes. -/
def bytesOriginRecord (now : PartTime) (o : Origin) : List Byte :=
  byteOrigin o.id :: bytesOr 4 ((lastSparkOf o now).map bytesTime) ++
    bytesOr 5 (o.source.map fun s => byteOf s.1 :: bytesTime s.2)

def byteActionKind (x : ActionKind) : Byte := rankIn [.divert, .alert, .evacuate, .shutdown, .release] x
def byteActionResult (x : ActionResult) : Byte := rankIn [.pending, .done, .failed, .isolated] x

/-- One action of the incident record, 7 bytes. -/
def bytesAction (a : Action) : List Byte :=
  [byteActionKind a.kind, byteOf a.target] ++ bytesTime a.issuedAt ++ [byteActionResult a.result]

/-- The incident record of QUERY-INCIDENT with an id (12 R183), read at a part time. -/
def bytesIncident (i : Incident) (now : PartTime) : List Byte :=
  [byteOf i.id, byteOf i.level, byteYes i.acked, byteFlags i.flags] ++ bytesCauses i.causes ++
    [byteOf (maskOf [i.stamp.isSome, i.lastSpark.isSome, i.unacked.isSome, i.quiet.isSome, i.resound.isSome])] ++
    bytesTime i.openedAt ++ bytesOr 6 (i.stamp.map bytesStamp) ++ bytesOr 4 (i.lastSpark.map bytesTime) ++
    bytes2 i.sparks ++ bytesList ((originsOf i).map (bytesOriginRecord now)) ++
    bytesOr 4 (i.unacked.map bytesTime) ++ bytesOr 4 (i.quiet.map bytesTime) ++
    bytesOr 4 (i.resound.map fun t => bytesTime (t - now)) ++ [byteOf i.further] ++
    bytesList (i.actions.map bytesAction)

/-! ## The notice record (12 R184, R185) -/

/-- The kind code of a notice (12 R184). -/
def noticeCode (b : NoticeBody) : Nat :=
  match b with
  | .spark .. => 1
  | .incidentOpened .. | .incidentRisen .. | .incidentAcked .. | .incidentMerged .. | .incidentClosed ..
  | .incidentSilenced .. | .incidentResounded .. => 2
  | .valveFail .. => 3
  | .valveRestored .. => 4
  | .valveUnproven .. => 5
  | .pressureUnexpected .. => 6
  | .counterWrap .. => 7
  | .groupState .. => 8
  | .gateState .. => 9
  | .deviceState .. => 10
  | .loopState => 11
  | .ductBlind .. => 12
  | .status .. => 13
  | .loopTestResult .. | .sirenTestResult .. => 14
  | .ductFlow .. => 15
  | .stepFault .. => 17
  | .fanTrip .. => 18
  | .fanUnexpected .. => 19
  | .groupRefused .. => 20
  | .wallState .. => 21
  | .doorState .. => 22
  | .damperState .. => 23
  | .wallRefused .. => 24
  | .testSkipped .. => 25
  | .testStarted .. => 26
  | .testInterrupted .. => 27
  | .chainState .. => 28
  | .circuitState .. => 29
  | .isolation .. => 30
  | .walkSpark .. => 31
  | .hostLost .. => 32
  | .walkEnded .. => 33

/-- The kind of a step, numbered 0 DRIVE to 4 INFEED (12 R182). -/
def byteStepKind (k : ListStep) : Byte :=
  match k with
  | .drive .. => 0#8
  | .await .. => 1#8
  | .pause .. => 2#8
  | .fan .. => 3#8
  | .infeed .. => 4#8

/-- The last four fields of a SPARK body (12 R185): form, outcome, window, and the MARGINAL and unextinguished
bits; 255 and 0 for a DOWNSTREAM spark. -/
def bytesFindings (f : Option Findings) (unextinguished : Bool) : List Byte :=
  match f with
  | none => [0xFF#8, 0xFF#8] ++ bytes4 0 ++ bytes4 0 ++ [byteOf (maskOf [false, unextinguished])]
  | some f =>
    match f.outcome with
    | .queued o c => [byteForm f.form, 0#8] ++ bytesTime o ++ bytesTime c ++
        [byteOf (maskOf [f.marginal, unextinguished])]
    | .missed => [byteForm f.form, 1#8] ++ bytes4 0 ++ bytes4 0 ++ [byteOf (maskOf [f.marginal, unextinguished])]

/-- The body of a notice: the SPARK body of 12 R185, and for every other kind the items its posting rule names in the
order named. DESIGN CHOICE (log 23): the words a rule names (ACKED, SILENCED, RESOUNDED, MERGED; INCIDENT, TEST-RUNNING,
CONFIG; the two chains, GOOD and FAULTED, and the like) are one byte each, numbered in the order named, and a body with
optional items leads with a presence byte. By the same choice the entry that names a monitor, in CIRCUIT-STATE, is two
bytes, its table's number and its index; the one cause of an INCIDENT opening is one byte, numbered in the order of
05 R78; a wall's cause set is one byte; and an
origin is one byte, as 12 R183 codes those of the incident record. -/
def bytesBody (b : NoticeBody) : List Byte :=
  match b with
  | .spark duct detector role kind t0 at_ incident level findings unext =>
    [byteOf duct, byteOf detector, byteRole role, byteReport kind] ++ bytesTime t0 ++ bytesTime at_ ++
      [byteOf incident, byteOf level] ++ bytesFindings findings unext
  | .incidentOpened id origin level cause => [byteOf id, byteOrigin origin, byteOf level, rankIn allCauses cause]
  | .incidentRisen id old new causes origins =>
    [byteOf id, byteOf old, byteOf new] ++ bytesCauses causes ++ bytesList (origins.map fun o => [byteOrigin o])
  | .incidentAcked id => [byteOf id, 1#8]
  | .incidentMerged id origin => [byteOf id, byteOrigin origin, 2#8]
  | .incidentClosed id way level sparks origins =>
    [byteOf id, rankIn [.auto, .reset, .forced] way, byteOf level] ++ bytes2 sparks ++
      bytesList (origins.map fun o => [byteOrigin o])
  | .incidentSilenced id resound => [byteOf id, 4#8] ++ bytes2 resound
  | .incidentResounded id => [byteOf id, 5#8]
  | .valveFail duct w => byteOf duct :: bytesWindow w
  | .valveRestored duct => [byteOf duct]
  | .valveUnproven duct w => byteOf duct :: bytesWindow w
  | .pressureUnexpected duct => [byteOf duct]
  | .counterWrap duct => [byteOf duct]
  | .groupState group old new source run =>
    [byteOf (maskOf [source.isSome, run.isSome]), byteOf group, byteGroup old, byteGroup new] ++
      bytesOr 1 (source.map fun x => [byteSource x]) ++ bytesOr 2 (run.map fun x => [byteListKind x.1, byteOf x.2])
  | .gateState duct old new => [byteOf duct, byteGate old, byteGate new]
  | .deviceState addr old new => [byteOf addr, byteDevice old, byteDevice new]
  | .loopState => []
  | .ductBlind duct seesAgain => byteOf duct :: (if seesAgain then [1#8] else [])
  | .status addr automatic answer =>
    [byteOf addr, rankIn [true, false] automatic, rankIn [true, false] answer.isSome] ++
      (match answer with
       | some a => [a.fault, byteOf a.soiling]
       | none => [])
  | .loopTestResult answered notAnswered => 0#8 :: bytesNats answered ++ bytesNats notAnswered
  | .sirenTestResult source faulty => [1#8, rankIn [.scheduled, .host] source] ++ bytesNats faulty
  | .ductFlow duct old new vf readAt =>
    [byteOf (maskOf [vf.isSome, readAt.isSome]), byteOf duct, byteConveying old, byteConveying new] ++
      bytesOr 2 (vf.map bytes2) ++ bytesOr 4 (readAt.map bytesTime)
  | .stepFault group list step kind point =>
    [byteOf group, byteListKind list, byteOf step, byteStepKind kind, byteOf point]
  | .fanTrip group => [byteOf group]
  | .fanUnexpected group => [byteOf group]
  | .groupRefused group source => [byteOf group, byteSource source]
  | .wallState wall old new causes => [byteOf wall, byteWall old, byteWall new, byteWallCauses causes]
  | .doorState wall door new => [byteOf wall, byteOf door, byteDoor new]
  | .damperState crossing new => [byteOf crossing, byteCrossing new]
  | .wallRefused wall incident => [byteOf wall, byteOf incident]
  | .testSkipped reason => [rankIn [.incident, .testRunning] reason]
  | .testStarted source duration => [rankIn [.scheduled, .host] source, byteOf duration]
  | .testInterrupted source faulty byConfig =>
    rankIn [.scheduled, .host] source :: bytesNats faulty ++ [rankIn [false, true] byConfig]
  | .chainState chain new => [rankIn [.out, .inp] chain, rankIn [.good, .faulted] new]
  | .circuitState monitor table entry old new =>
    [byteOf monitor, byteOf (tableNumber table), byteOf entry, byteCircuit old, byteCircuit new]
  | .isolation kind element isolated => [byteElement kind, byteOf element, rankIn [true, false] isolated]
  | .walkSpark duct detector role kind t0 =>
    [byteOf duct, byteOf detector, byteRole role, byteReport kind] ++ bytesTime t0
  | .hostLost since => (since.map bytesTime).getD []
  | .walkEnded duct byExpiry startedAt sparks seen unseen =>
    [byteOf duct, rankIn [false, true] byExpiry] ++ bytesOr 4 (startedAt.map bytesTime) ++ bytes2 sparks ++
      bytesNats seen ++ bytesNats unseen

/-- A notice as a FETCH reply carries it (12 R184). -/
def bytesNotice (n : Notice) : List Byte :=
  bytes2 n.seq.toNat ++ [byteClass n.cls, byteOf (noticeCode n.body)] ++ bytesTime n.time ++
    [byteOf (bytesBody n.body).length] ++ bytesBody n.body

/-- How many of the oldest notices a FETCH of n returns within a budget of bytes (11 R178). -/
def fetchCount (n room : Nat) (q : List Notice) : Nat :=
  match q with
  | [] => 0
  | x :: r =>
    match n with
    | 0 => 0
    | n + 1 => if (bytesNotice x).length ≤ room then 1 + fetchCount n (room - (bytesNotice x).length) r else 0

/-- The room a FETCH reply has for notices: 250 bytes of payload less kind, tag, status and three counts (12 R185). -/
def fetchRoom : Nat := Config.maxPayload - 6

/-! ## Replies (12 R182). The records that Chapter 12 gives no layout are sent field by field in the order of their
own table, each led by a byte of presence bits where fields of it may be absent; an absent record is sent as the zero
bytes of one with empty lists. A field of the values set and clear is sent as 1 for set and 0 for clear. The layouts
are the model's choice (log 24). -/

def bytesExpiry (e : Option PartTime) : List Byte := bytesOr 4 (e.map bytesTime)

def bytesTransit (t : Transit) : List Byte :=
  [byteOf (maskOf [t.vfUsed.isSome, t.vHi.isSome, t.vLo.isSome]), byteOf t.detector] ++ bytesTime t.t0 ++
    bytesTime t.computedAt ++ [byteForm t.form] ++ bytes2 (t.vfUsed.getD 0) ++ bytes2 (t.vHi.getD 0) ++
    bytes2 (t.vLo.getD 0) ++ bytes2 t.tE ++ bytes2 t.tL ++ bytesTime t.aE ++ bytesTime t.aL ++
    (match t.outcome with
     | .queued o c => 0#8 :: bytesTime o ++ bytesTime c
     | .missed => 1#8 :: bytes4 0 ++ bytes4 0) ++ [byteYes t.marginal]

/-- A velocity record (03 R37, R53). DESIGN CHOICE (log 24): its items stand in the order in which R53 names them, the
conveying state before the stale expiry, and not in that of R37's table. -/
def bytesVelocity (v : Velocity) : List Byte :=
  [byteOf (maskOf [v.vf.isSome, v.raw.isSome, v.readAt.isSome, v.stale.isSome, v.transit.isSome])] ++
    bytes2 (v.vf.getD 0) ++ bytes2 (v.raw.getD 0) ++ bytesExpiry v.readAt ++ [byteConveying v.state] ++
    bytesExpiry v.stale ++ bytesOr 39 (v.transit.map bytesTransit)

/-- The spark state of a duct, oldest detection time first (05 R98). -/
def bytesSparks (x : DuctSparks) : List Byte :=
  bytesList (x.ring.map bytesTime) ++ bytes2 x.total ++ [byteYes x.wrapped]

def bytesWalk (w : Walk) : List Byte :=
  [byteOf (maskOf [w.expiry.isSome, w.startedAt.isSome]), byteYes w.active] ++ bytesExpiry w.expiry ++
    bytesExpiry w.startedAt ++ bytes2 w.sparks ++ bytesNats w.seen

/-- A valve record (04 R54). DESIGN CHOICE (log 24): the availability is the cause set alone, one byte. -/
def bytesValve (v : Valve) : List Byte :=
  [byteOf (maskOf [v.openExpiry.isSome, v.closeExpiry.isSome, v.settleExpiry.isSome, v.last.isSome]),
    byteValve v.state, byteYes v.failed, byteOf (maskOf [v.circuit, v.failed, v.isolated]), byteYes v.isolated] ++
    bytesList (v.queue.map bytesWindow) ++ [byteYes v.flowed, byteYes v.settleRan] ++ bytesExpiry v.openExpiry ++
    bytesExpiry v.closeExpiry ++ bytesExpiry v.settleExpiry ++
    bytesOr 11 (v.last.map fun l => bytesWindow l.1 ++ [byteWindowOutcome l.2]) ++ bytes2 v.refusals

/-- A gate record (04 R70). DESIGN CHOICE (log 24): a pending divert is sent as the id of the incident that is owed its
result. -/
def bytesGate (g : Gate) : List Byte :=
  [byteOf (maskOf [g.travel.isSome, g.pending.isSome]), byteGate g.state, byteYes g.commanded] ++
    bytesExpiry g.travel ++ [byteYes g.isolated, byteOf (g.pending.getD 0)]

def bytesGroup (g : Group) : List Byte :=
  [byteOf (maskOf [g.priority.isSome, g.source.isSome, g.runner.isSome, g.fault.isSome, g.lastRun.isSome]),
    byteGroup g.state] ++
    bytesOr 1 (g.priority.map fun p => [rankIn [.normal, .immediate] p]) ++
    bytesOr 1 (g.source.map fun x => [byteSource x]) ++
    bytesOr 8 (g.runner.map fun r => [byteOf (maskOf [r.expiry.isSome]), byteListKind r.list, byteOf r.step] ++
      bytesExpiry r.expiry ++ [byteYes r.fanProven]) ++
    bytesOr 3 (g.fault.map fun f => [byteListKind f.list, byteOf f.step, rankIn [.timeout] f.cause]) ++
    bytesOr 7 (g.lastRun.map fun r => [byteListKind r.list, byteOf r.step,
      rankIn [.completed, .faulted, .abandoned] r.outcome] ++ bytesTime r.endedAt) ++
    [byteYes g.isolated] ++ bytes2 g.refusals

def bytesWall (w : Wall) : List Byte :=
  [byteOf (maskOf [w.warning.isSome, w.releasedAt.isSome]), byteWall w.state, byteWallCauses w.causes] ++
    bytesExpiry w.warning ++ [byteCircuit w.holder, byteYes w.isolated] ++ bytes2 w.refusals ++
    bytesExpiry w.releasedAt ++
    bytesList (w.doors.map fun d => [byteOf (maskOf [d.expiry.isSome]), byteDoor d.state] ++ bytesExpiry d.expiry)

def bytePhase (x : Phase) : Byte := rankIn [.on, .off, .steady] x

/-- A siren record (08 R136). DESIGN CHOICE (log 24): presence bits of the phase and the cadence expiry lead it, and the
test demand, listed as present or absent, is 1 for present and 0 for absent. -/
def bytesSiren (r : Siren) : List Byte :=
  byteOf (maskOf [r.phase.isSome, r.cadence.isSome]) ::
    bytesList (r.demands.map fun d => [byteOf d.incident, rankIn [false, true] d.evacuate, byteYes d.silenced]) ++
    [byteYes r.testDemand, rankIn [some .evacuate, some .alert, some .test, none] r.sounding] ++
    bytesOr 1 (r.phase.map fun x => [bytePhase x]) ++ bytesExpiry r.cadence ++
    [byteYes r.fault, byteYes r.testFault, byteYes r.isolated]

/-- The content of the command slot (02 R36). DESIGN CHOICE (log 24): 0 for empty, 1 for a READ-STATUS and 2 for a
detector test, which no table of the spec numbers; a READ-STATUS has a byte after its address, AUTOMATIC 0 or HOST 1, which
the rule does not name. -/
def bytesCommand (c : Option LoopCommand) : List Byte :=
  match c with
  | none => [0#8]
  | some (.read addr automatic ..) => [1#8, byteOf addr, rankIn [true, false] automatic]
  | some (.test target mask _ _ answered) => [2#8, byteOf target.toNat, byteOf mask.toNat] ++ bytesNats answered

/-- A device record with the role of its entry (02 R36). DESIGN CHOICE (log 24): the role of a flow sensor, which no
table of the spec numbers, is 2, and the role and the duct stand before the fields of R22. -/
def bytesDevice (d : Device) : List Byte :=
  [byteOf (maskOf [d.flags.isSome, d.toggle.isSome, d.status.isSome]),
    (match d.kind with
     | .detector r => byteRole r
     | .flow => 2#8), byteOf d.duct, byteDevice d.state, byteOf d.misses,
    byteOf (match d.flags with
      | some f => maskOf [f.soiled, f.fault, f.service]
      | none => 0), byteYes (d.toggle.getD false)] ++
    (match d.status with
     | some x => [x.fault, byteOf x.soiling]
     | none => [0#8, 0#8]) ++ bytes2 d.withheld

def bytesClock (c : Clock) : List Byte := bytesStamp c.time ++ [byteYes c.isSet]

/-- A fault condition, numbered in the order of 09 R159 (12 R182). -/
def byteCondition (c : FaultCondition) : Byte :=
  rankIn [.hostLost, .loopDown, .detectorMissing, .ductBlind, .chainFaulted, .circuitNotNormal, .valveFailed,
    .gateJammed, .doorStuck, .damperJammed, .groupFault] c

def bytesPlan (p : PlanEntry) : List Byte :=
  [byteOf p.weekdays.toNat, byteOf p.hour, byteOf p.minute, byteOf p.duration, byteYes p.enabled]

/-- The data of an accepted reply. DESIGN CHOICE (log 24): beside an absent wall record the holder and beacon levels are
sent as off, and beside an absent group record the fan feedback level as unknown. QUERY-GROUP sends the number of each
owned, auxiliary and feedback point beside its level, in counted lists. QUERY-WALL sends the damper levels and the doors'
switch levels as lists of their own, apart from the door records, and the number of each crossing before its duct. The
levels of ATTN, ALARM and FAULT in QUERY-LINK are 0 for on and 1 for off. QUERY-SIREN sends the sector and then the
output level after the whole siren record, its cadence expiry included. The reply of ISOLATE and RESTORE sends the kind byte
of the element before its number and its isolated flag (DESIGN CHOICE, log 57). -/
def bytesData (d : ReplyData) : List Byte :=
  match d with
  | .nothing => []
  | .setup b a => [byteMode b, byteMode a]
  | .mode m => [byteMode m]
  | .duct v sp inc w =>
    byteOf (maskOf [v.isSome, sp.isSome, inc.isSome, w.isSome]) ::
      (bytesOr 53 (v.map bytesVelocity) ++ bytesOr 4 (sp.map bytesSparks) ++ [byteOf (inc.getD 0)] ++
        bytesOr 13 (w.map bytesWalk))
  | .valve v g =>
    byteOf (maskOf [v.isSome, g.isSome]) :: (bytesOr 33 (v.map bytesValve) ++ bytesOr 9 (g.map bytesGate))
  | .incidents l => bytesList (l.map fun i => [byteOf i.id, byteOf i.level, byteYes i.acked, byteOrigin i.primary])
  | .incident r t => bytesIncident r t
  | .group r owned aux fan feedback =>
    byteOf (maskOf [r.isSome]) :: (bytesOr 25 (r.map bytesGroup) ++
      bytesList (owned.map fun p => [byteOf p.1, byteLevel p.2]) ++
      bytesList (aux.map fun p => [byteOf p.1, byteLevel p.2]) ++ [byteInput fan] ++
      bytesList (feedback.map fun p => [byteOf p.1, byteInput p.2]))
  | .wall r holder beacon dampers switches crossings =>
    byteOf (maskOf [r.isSome]) :: (bytesOr 16 (r.map bytesWall) ++ [byteLevel holder, byteLevel beacon] ++
      bytesList (dampers.map fun x => [byteLevel x]) ++ bytesList (switches.map fun x => [byteInput x]) ++
      bytesList (crossings.map fun c => [byteOf (maskOf [c.expiry.isSome]), byteOf c.crossing, byteOf c.duct,
        byteCrossing c.state] ++ bytesExpiry c.expiry ++ [byteInput c.level]))
  | .siren r =>
    byteOf (maskOf [r.isSome]) :: bytesOr 14 (r.map fun x => bytesSiren x.1 ++ [byteOf x.2.1, byteLevel x.2.2])
  | .sirenTest t c p =>
    [byteOf (maskOf [t.isSome, p.isSome])] ++
      bytesOr 5 (t.map fun x => rankIn [.scheduled, .host] x.1 :: bytesTime x.2) ++ bytesClock c ++
      bytesOr 5 (p.map bytesPlan)
  | .loop v d =>
    [rankIn [.idle, .up, .down] v.state] ++ bytes2 v.errors ++ bytes2 v.foreign ++ bytesCommand v.slot ++
      bytesNats v.autoReads ++ bytesNats v.blind ++ [byteOf (maskOf [d.isSome])] ++ bytesOr 11 (d.map bytesDevice)
  | .link v =>
    [byteOf (maskOf [v.hostLostExpiry.isSome]), byteMode v.mode, byteOf v.linkTimeout, byteOf v.attnThreshold] ++
      bytes2 v.errors ++ [byteYes v.hostLost] ++ bytesExpiry v.hostLostExpiry ++
      [byteOf v.notices, byteOf v.alarms, byteOf v.faults, byteOf v.states, byteYes v.overrun] ++
      bytes2 v.nextSeq.toNat ++ [byteLevel v.lines.attn, byteLevel v.lines.alarm, byteLevel v.lines.fault] ++
      bytesList (v.conditions.map fun c => [byteCondition c]) ++ bytesTime v.time ++ bytesClock v.clock
  | .fetched ns left overrun => [byteOf ns.length, byteOf left, byteYes overrun] ++ (ns.map bytesNotice).flatten
  | .incidentId id => [byteOf id]
  | .wallState w x => [byteOf w, byteWall x]
  | .groupState g x => [byteOf g, byteGroup x]
  | .duration n => [byteOf n]
  | .element k n i => [byteElement k, byteOf n, byteYes i]
  | .walk d t => byteOf d :: bytesTime t
  | .point p l => [byteOf p, byteLevel l]

/-- The status byte of a refusal code: its place in the table of Chapter 11, from 1 (12 R182). -/
def refusalNumber (c : RefusalCode) : Nat :=
  match c with
  | .busy => 1 | .owned => 2 | .interlock => 3 | .badState => 4 | .badValue => 5 | .noSuch => 6 | .tableFull => 7
  | .notSetUp => 8 | .unknownKind => 9 | .loopBusy => 10 | .wrongMode => 11

/-- The reason byte of a detail (12 R182). -/
def reasonNumber (r : Reason) : Nat :=
  match r with
  | .none => 0 | .notAcked => 1 | .notQuiet => 2 | .valveBusy => 3 | .isolated => 4 | .incident => 5 | .testRunning => 6
  | .level1 => 7 | .inIncident => 8 | .notWalking => 9 | .holderCircuit => 10 | .state => 11 | .field => 12

/-- The payload of a reply frame: kind, tag, status, then the data or the detail (12 R182). -/
def replyPayload (r : Reply) : List Byte :=
  r.kind :: r.tag :: (match r.status with
    | .accepted d => 0#8 :: bytesData d
    | .refused c why args => byteOf (refusalNumber c) :: byteOf (reasonNumber why) :: args.map byteOf)

/-! ## The link check and envelope (12 R182) -/

/-- One bit into the 16-bit check register: generator x^16 + x^12 + x^5 + 1. -/
def crc16Bit (c : BitVec 16) (b : Bool) : BitVec 16 :=
  let shifted := c <<< 1
  if c.msb != b then shifted ^^^ 0x1021#16 else shifted

/-- The bits of a byte, most significant first. -/
def bitsOfByte (b : Byte) : List Bool :=
  [b.getLsbD 7, b.getLsbD 6, b.getLsbD 5, b.getLsbD 4, b.getLsbD 3, b.getLsbD 2, b.getLsbD 1, b.getLsbD 0]

/-- The link check over the length byte and the payload: initial value 0xFFFF, bits taken most significant first
(PRESUMED, log 7). -/
def linkCheck (bs : List Byte) : BitVec 16 := (bs.flatMap bitsOfByte).foldl crc16Bit 0xFFFF#16

/-- A frame on the link: sync, length, payload, check with its most significant byte first. -/
def linkFrame (payload : List Byte) : List Byte :=
  let body := byteOf payload.length :: payload
  Config.syncByte :: (body ++ bytes2 (linkCheck body).toNat)

/-! ## Loop frames (12 R186) -/

/-- The n lowest bits of a number, most significant first. -/
def bitsOf (n x : Nat) : List Bool :=
  match n with
  | 0 => []
  | n + 1 => x.testBit n :: bitsOf n x

/-- One bit into the 8-bit check register: generator x^8 + x^2 + x + 1. -/
def crc8Bit (c : BitVec 8) (b : Bool) : BitVec 8 :=
  let shifted := c <<< 1
  if c.msb != b then shifted ^^^ 0x07#8 else shifted

/-- The loop check over every preceding bit of the frame, initial value 0. -/
def loopCheck (bits : List Bool) : BitVec 8 := bits.foldl crc8Bit 0#8

/-- A frame's bits with its check after them. -/
def withLoopCheck (bits : List Bool) : List Bool := bits ++ bitsOf 8 (loopCheck bits).toNat

/-- A controller frame as bits (12 R186). -/
def loopFrameBits (f : LoopFrame) : List Bool :=
  withLoopCheck (match f with
    | .poll a => bitsOf 2 0 ++ bitsOf 6 a
    | .ack a t => bitsOf 2 1 ++ bitsOf 6 a ++ [t]
    | .testFire target mask => bitsOf 2 2 ++ bitsOf 6 target.toNat ++ bitsOf 6 mask.toNat
    | .readStatus a => bitsOf 2 3 ++ bitsOf 6 a)

/-- A SPARK report as bits (12 R186). -/
def sparkReportBits (addr : LoopAddr) (toggle : Bool) (kind : BitVec 2) (age : BitVec 8) : List Bool :=
  withLoopCheck (bitsOf 6 addr.toNat ++ [false, toggle] ++ bitsOf 2 kind.toNat ++ bitsOf 8 age.toNat)

/-- A STATUS answer as bits (12 R186). -/
def statusAnswerBits (addr : LoopAddr) (fault : BitVec 8) (soiling : BitVec 7) : List Bool :=
  withLoopCheck (bitsOf 6 addr.toNat ++ [true] ++ bitsOf 8 fault.toNat ++ bitsOf 7 soiling.toNat)

/-- A detector's poll answer as bits (12 R186). -/
def detectorAnswerBits (soiled fault service : Bool) : List Bool :=
  withLoopCheck ([soiled, fault, service] ++ bitsOf 5 0)

/-- A flow sensor's poll answer as bits (12 R186). -/
def flowAnswerBits (raw : BitVec 16) : List Bool := withLoopCheck (bitsOf 16 raw.toNat)

/-- The kind of a SPARK report from its two bits; kind 3 is none, and the frame counts as spoiled (12 R186). -/
def reportKindOf (k : BitVec 2) : Option ReportKind :=
  match k.toNat with
  | 0 => some .spark
  | 1 => some .ember
  | 2 => some .test
  | _ => none

end Sys2Proof.Machine
end

