-- ==== Sys2Proof/Machine/Link.lean ====
section
/-! DEFINITION. LP, the Link Port (Chapter 11): what every valid frame does, the judging of a request, and the link's
own events. -/

namespace Sys2Proof.Machine

/-- The judgement of a request by its owner: the status of the reply and the state after the request (11 R172). -/
abbrev Judged := ReplyStatus × State

/-- An acceptance. -/
def accept (d : ReplyData) (s : State) : Judged := (.accepted d, s)

/-- A refusal, which changes nothing (11 R173). -/
def refuse (c : RefusalCode) (why : Reason) (args : List Nat) (s : State) : Judged := (.refused c why args, s)

/-- NO-SUCH carries no reason and no argument (log 11). -/
def noSuch (s : State) : Judged := refuse .noSuch .none [] s

/-- BAD-VALUE names the position of the first field at fault (11 R172, 12 R182; log 11). -/
def badField (field : Nat) (s : State) : Judged := refuse .badValue .field [field] s

/-- A request whose body is read first: a body that breaks the conventions is refused BAD-VALUE (11 R172, check 4). -/
def withBody {α : Type} (r : Except FieldError α) (judge : α → State → Judged) (s : State) : Judged :=
  match r with
  | .ok x => judge x s
  | .error e => badField e.field s

/-- The link error count is raised (11 R171, R172). -/
def countLinkError (s : State) : State :=
  { s with lp := { s.lp with errors := satInc s.lp.errors Config.counterLimit } }

/-- The receiver takes a state. -/
def setReceiver (r : Receiver) (s : State) : State := { s with lp := { s.lp with receiver := r } }

/-- The host-lost expiry as a valid frame leaves it (11 R180): one link timeout from now in RUN with a timeout that is
not 0, stopped otherwise. -/
def hostLostStart (mode : Mode) (timeout : Nat) (now : PartTime) : Option PartTime :=
  if mode = .run ∧ timeout ≠ 0 then some (now + seconds timeout) else none

/-- A valid frame clears the host-lost flag (11 R180). -/
def hostFound (s : State) : State :=
  match s.lp.hostLost with
  | none => s
  | some t => postNotice .state (.hostLost (some t)) { s with lp := { s.lp with hostLost := none } }

/-- What every valid frame does, whatever becomes of its request (11 R171, R180). -/
def takeValidFrame (s : State) : State :=
  let s1 := hostFound (setReceiver .hunting s)
  { s1 with lp := { s1.lp with hostLostExpiry := hostLostStart s1.lp.mode s1.lp.linkTimeout s1.now } }

/-- A reply is placed at the end of the reply queue (11 R172). -/
def pushReply (r : Reply) (s : State) : State := { s with lp := { s.lp with replies := s.lp.replies ++ [r] } }

/-- LP takes a valid frame as a request (11 R172): with a full reply queue it is not taken, and counts as a link error;
else its judgement gives the reply. DESIGN CHOICE (log 51): the notice of the host found is posted before the judgement. -/
def takeRequest (code tag : Byte) (judge : State → Judged) (s : State) : State :=
  let s1 := takeValidFrame s
  if Config.replyLimit ≤ s1.lp.replies.length then countLinkError s1
  else
    let r := judge s1
    pushReply { kind := code, tag := tag, status := r.1 } r.2

/-- The judgement of a request of a known kind (11 R172, R173): refused for the mode, or judged by its owner. -/
def judgeKind (k : ReqKind) (judge : State → Judged) (s : State) : Judged :=
  match modeRefusal k s.lp.mode with
  | some c => refuse c .none [] s
  | none => judge s

/-- LP takes a request of a known kind, with its tag and its owner's judgement. -/
def request (k : ReqKind) (tag : Byte) (judge : State → Judged) (s : State) : State :=
  takeRequest (byteOf (kindCode k)) tag (judgeKind k judge) s

/-- LP takes a valid frame whose kind code names no request (11 R172). -/
def unknownRequest (code tag : Byte) (s : State) : State := takeRequest code tag (refuse .unknownKind .none []) s

/-- The link timeout runs out (11 R180). -/
def hostLostRunsOut (s : State) : State :=
  if s.lp.mode = .run ∧ due s.lp.hostLostExpiry s.now = true then
    postNotice .fault (.hostLost none)
      { s with lp := { s.lp with hostLost := some s.now, hostLostExpiry := none } }
  else s

/-- A gap of more than 20 ms has passed since the last byte of a frame (11 R171). -/
def gapPassed (r : Receiver) (now : PartTime) : Bool :=
  match r with
  | .hunting => false
  | .awaitLength t => moreThanAgo t now Config.byteGap
  | .inFrame _ _ _ t => moreThanAgo t now Config.byteGap

/-- A frame is discarded or abandoned (11 R171). -/
def dropFrame (s : State) : State := setReceiver .hunting (countLinkError s)

/-- A frame in which more than 20 ms have passed since its last byte is abandoned (11 R171). -/
def abandonFrame (s : State) : State := if gapPassed s.lp.receiver s.now then dropFrame s else s

/-! ## The commands -/

/-- LINK_FRAME_DISCARDED (11 R171; log 6). -/
def execLinkFrameDiscarded (s : State) : Host.Outcome State Fault Refusal := taken (dropFrame s)

/-- LINK_BYTE_GAP_TIMEOUT (11 R171). -/
def execLinkByteGapTimeout (s : State) : Host.Outcome State Fault Refusal := taken (abandonFrame s)

/-- UNKNOWN_KIND (11 R172). -/
def execUnknownKind (kind tag : Byte) (_body : List Byte) (s : State) : Host.Outcome State Fault Refusal :=
  taken (unknownRequest kind tag s)

/-- REPLY_SENT (11 R172): the oldest reply leaves the queue. -/
def execReplySent (s : State) : Host.Outcome State Fault Refusal :=
  taken { s with lp := { s.lp with replies := s.lp.replies.tail } }

/-- HOST_LOST_EXPIRY (11 R180). -/
def execHostLostExpiry (s : State) : Host.Outcome State Fault Refusal := taken (hostLostRunsOut s)

/-- COLD_RESET (09 R160): every field at its reset value; the commands that wait go on waiting (log 4). -/
def execColdReset (s : State) : Host.Outcome State Fault Refusal :=
  taken { State.reset with pending := s.pending }

end Sys2Proof.Machine
end

