-- ==== Sys2Proof/Machine/Valves.lean ====
section
/-! DEFINITION. VG, the Valve and Gate Controller (Chapter 4): the window queue, opening and closing, pressure, and
the moves of a gate. What VG hands to IT is returned to the caller as a report. -/

namespace Sys2Proof.Machine

/-! ## The window queue (04 R57, R58) -/

/-- Two windows qualify for joining: the later-opening one opens no more than M after the other closes (04 R57). -/
def qualifies (m : Nat) (x y : Window) : Bool :=
  if before y.openAt x.openAt then !before (y.closeAt + ms m) x.openAt else !before (x.closeAt + ms m) y.openAt

/-- The union of two windows (04 R57). -/
def unionWindow (x y : Window) : Window :=
  { openAt := if before y.openAt x.openAt then y.openAt else x.openAt
    closeAt := if before x.closeAt y.closeAt then y.closeAt else x.closeAt
    sparks := satAdd x.sparks y.sparks Config.counterLimit }

/-- Joins to a window every window of the queue that qualifies with it, and again with the union, until none does
(04 R57). Each round but the last takes a window out of the queue, so a round for each window is enough. -/
def absorb (m rounds : Nat) (w : Window) (q : List Window) : Window × List Window :=
  match rounds with
  | 0 => (w, q)
  | n + 1 =>
    if q.any (qualifies m w) then
      absorb m n ((q.filter (qualifies m w)).foldl unionWindow w) (q.filter fun x => !qualifies m w x)
    else (w, q)

/-- Places a window at the position its open time gives. -/
def insertWindow (w : Window) (q : List Window) : List Window :=
  match q with
  | [] => [w]
  | x :: r => if before w.openAt x.openAt then w :: x :: r else x :: insertWindow w r

/-- The place in the queue of a new window's neighbour: the window with the latest open time earlier than the new
window's, or else the first (04 R58). -/
def neighbour (w : Window) (q : List Window) : Nat := (q.filter fun x => before x.openAt w.openAt).length - 1

/-- Takes a new window into a queue: merged with every window it reaches (04 R57), or joined to its neighbour when
the queue is full (04 R58). -/
def mergeWindow (m : Nat) (w : Window) (q : List Window) : List Window :=
  if q.any (qualifies m w) || decide (q.length < Config.windowLimit) then
    let r := absorb m q.length w q
    insertWindow r.1 r.2
  else
    let k := neighbour w q
    let r := absorb m q.length (unionWindow (q.getD k w) w) (q.eraseIdx k)
    insertWindow r.1 r.2

/-! ## The valve (04 R55, R59-R63) -/

/-- A valve is AVAILABLE while its cause set is empty (04 R55). -/
def unavailable (v : Valve) : Bool := v.circuit || v.failed || v.isolated

/-- A duct's valve is UNAVAILABLE, as IT reads it (04 R55, 05 R83). -/
def valveUnavailable (s : State) (d : Nat) : Bool := (Table.get s.vg.valves d).any unavailable

/-- A valve is at rest: IDLE with an empty queue (04 R54). -/
def valveAtRest (s : State) (d : Nat) : Bool :=
  (Table.get s.vg.valves d).all fun v => v.state == .idle && v.queue.isEmpty

/-- The output of a duct's valve is driven (04 R54). -/
def driveValve (d : Nat) (on : Bool) (s : State) : State :=
  match Table.get s.model.valves d with
  | none => s
  | some e => writeOut e.output on s

/-- Water arrives at an open valve (04 R61): FLOWING, and a failed valve is restored. -/
def pressureArrives (d : Nat) (s : State) : State :=
  match Table.get s.vg.valves d with
  | none => s
  | some v =>
    let s1 := updValve d (fun v => { v with
      settleExpiry := none, state := .flowing, flowed := true, failed := false }) s
    if v.failed then postNotice .state (.valveRestored d) s1 else s1

/-- Opens the head window (04 R60). -/
def openHead (d : Nat) (s : State) : State :=
  match Table.get s.vg.valves d, Table.get s.model.valves d with
  | some v, some e =>
    let s1 := updValve d (fun v => { v with
      state := .opening, flowed := false, settleRan := false, openExpiry := none,
      closeExpiry := v.queue.head?.map fun w => w.closeAt,
      settleExpiry := none }) s
    let s2 := driveValve d true s1
    if v.queue.isEmpty then s
    else if inputMade s2 e.pressureIn then pressureArrives d s2
    else updValve d (fun v => { v with settleExpiry := some (s.now + ms e.settle) }) s2
  | _, _ => s

/-- Arms the head (04 R59): an open expiry for an IDLE valve, or the head opened at once when its time is not after
now; the close expiry of the head for an open valve. -/
def armHead (d : Nat) (s : State) : State :=
  match Table.get s.vg.valves d with
  | none => s
  | some v =>
    match v.queue with
    | [] => updValve d (fun v => { v with openExpiry := none, closeExpiry := none }) s
    | h :: _ =>
      if v.state = .idle then
        if before s.now h.openAt then
          updValve d (fun v => { v with openExpiry := some h.openAt, closeExpiry := none }) s
        else openHead d s
      else updValve d (fun v => { v with openExpiry := none, closeExpiry := some h.closeAt }) s

/-- VG takes a window from TC (04 R56): refused for an isolated valve, else merged and the head armed. -/
def takeWindow (d : Nat) (w : Window) (s : State) : State :=
  match Table.get s.vg.valves d, Table.get s.model.valves d with
  | some v, some e =>
    if v.isolated then updValve d (fun v => { v with refusals := satInc v.refusals Config.counterLimit }) s
    else armHead d (updValve d (fun v => { v with queue := mergeWindow e.minOff w v.queue }) s)
  | _, _ => s

/-- The outcome of a window from the two flags kept while it was the head (04 R63). -/
def windowOutcome (v : Valve) : WindowOutcome :=
  match v.settleRan, v.flowed with
  | false, true => .flowed
  | true, true => .lateFlow
  | true, false => .failed
  | false, false => .unproven

/-- Ends the head window (04 R63). DESIGN CHOICE (log 56): the flowed-in-head and settle-ran-out-in-head flags, which R63
reads and does not name among what it changes, keep their values until the next head opens. -/
def closeHead (d : Nat) (s : State) : State :=
  match Table.get s.vg.valves d with
  | none => s
  | some v =>
    match v.queue with
    | [] => s
    | h :: _ =>
      let s1 := updValve d (fun v => { v with
        state := .idle, queue := v.queue.tail, closeExpiry := none, settleExpiry := none,
        last := some (h, windowOutcome v) }) (driveValve d false s)
      let s2 := if windowOutcome v = .unproven then postNotice .state (.valveUnproven d h) s1 else s1
      armHead d s2

/-- The pressure input of a valve changes its debounced level (04 R61, R64). -/
def pressureChange (d : Nat) (made : Bool) (s : State) : State :=
  match Table.get s.vg.valves d, Table.get s.model.valves d with
  | some v, some e =>
    match v.state, made with
    | .idle, true => postNotice .fault (.pressureUnexpected d) s
    | .opening, true => pressureArrives d s
    | .flowing, false => updValve d (fun v => { v with
        state := .opening, settleExpiry := some (s.now + ms e.settle) }) s
    | _, _ => s
  | _, _ => s

/-- VG closes a valve on entry to CONFIG (04 R68). DESIGN CHOICE (log 49): both flags of the head keep their values. -/
def closeForConfig (d : Nat) (s : State) : State :=
  updValve d (fun v => { v with
    state := .idle, queue := [], openExpiry := none, closeExpiry := none, settleExpiry := none }) (driveValve d false s)

/-- VG takes the entry to CONFIG: every valve is closed (04 R68). -/
def valvesToConfig (s : State) : State := (s.vg.valves.map fun e => e.1).foldl (fun t d => closeForConfig d t) s

/-! ## The gate (04 R70-R75) -/

/-- What a gate event hands to IT: the result of its pending divert, and a GATE-FAIL (04 R73, R74). -/
inductive GateReport where
  | nothing
  | divertDone (incident : Nat)
  | gateFail (pending : Option Nat)
deriving DecidableEq, Repr

/-- A gate takes a state; a change posts a GATE-STATE notice (04 R70). -/
def setGateState (d : Nat) (new : GateState) (s : State) : State :=
  match Table.get s.vg.gates d with
  | none => s
  | some g =>
    if g.state = new then s
    else postNotice (if new = .jammed then .fault else .state) (.gateState d g.state new)
      (updGate d (fun g => { g with state := new }) s)

/-- The gate output is driven toward a commanded position (04 R70). -/
def driveGate (d : Nat) (diverted : Bool) (s : State) : State :=
  let s1 := updGate d (fun g => { g with commanded := diverted }) s
  match Table.get s1.model.gates d with
  | none => s1
  | some e => writeOut e.output diverted s1

/-- IT's divert demand for a duct's gate (04 R71), with its result when taken. -/
def divertDemand (d incident : Nat) (s : State) : State × ActionResult :=
  match Table.get s.vg.gates d, Table.get s.model.gates d with
  | some g, some e =>
    if g.isolated then (s, .isolated)
    else match g.state with
      | .diverted => (updGate d (fun g => { g with pending := none }) s, .done)
      | .toDivert => (updGate d (fun g => { g with pending := some incident }) s, .pending)
      | old =>
        let s1 := driveGate d true s
        if (old = .toNormal ∨ old = .jammed) ∧ inputMade s e.positionIn then
          (setGateState d .diverted (updGate d (fun g => { g with travel := none, pending := none }) s1), .done)
        else
          (setGateState d .toDivert (updGate d (fun g => { g with
            travel := some (s.now + ms e.travel), pending := some incident }) s1), .pending)
  | _, _ => (s, .pending)

/-- A return demand for a duct's gate, from IT or GS (04 R72). Its result is kept by neither (05 R95, 06 R114). -/
def returnDemand (d : Nat) (s : State) : State :=
  match Table.get s.vg.gates d, Table.get s.model.gates d with
  | some g, some e =>
    if g.isolated then s
    else match g.state with
      | .normal => s
      | .toNormal => s
      | old =>
        let s1 := driveGate d false s
        if (old = .toDivert ∨ old = .jammed) ∧ inputMade s e.positionIn = false then
          setGateState d .normal (updGate d (fun g => { g with travel := none, pending := none }) s1)
        else
          setGateState d .toNormal (updGate d (fun g => { g with
            travel := some (s.now + ms e.travel), pending := none }) s1)
  | _, _ => s

/-- A gate reaches DIVERTED at the change of its input: its travel stops and its pending divert is reported. -/
def gateDiverted (d : Nat) (pending : Option Nat) (s : State) : State × GateReport :=
  (setGateState d .diverted (updGate d (fun g => { g with travel := none, pending := none }) s),
    match pending with
    | some id => .divertDone id
    | none => .nothing)

/-- A gate becomes JAMMED, handing GATE-FAIL to IT when it was to divert or had diverted (04 R73, R74). -/
def gateJams (d : Nat) (hand : Bool) (pending : Option Nat) (s : State) : State × GateReport :=
  (setGateState d .jammed (updGate d (fun g => { g with travel := none, pending := none }) s),
    if hand then .gateFail pending else .nothing)

/-- The position input of a gate changes its debounced level (04 R73, R74). -/
def positionChange (d : Nat) (made : Bool) (s : State) : State × GateReport :=
  match Table.get s.vg.gates d with
  | none => (s, .nothing)
  | some g =>
    if g.isolated then (s, .nothing)
    else match g.state, made with
      | .toDivert, true => gateDiverted d g.pending s
      | .toNormal, false => (setGateState d .normal (updGate d (fun g => { g with travel := none }) s), .nothing)
      | .diverted, false => gateJams d true g.pending s
      | .normal, true => gateJams d false none s
      | .jammed, true => if g.commanded then gateDiverted d g.pending s else (s, .nothing)
      | .jammed, false => if g.commanded then (s, .nothing) else (setGateState d .normal s, .nothing)
      | _, _ => (s, .nothing)

/-- The travel expiry of a gate runs out (04 R73). -/
def travelRunsOut (d : Nat) (s : State) : State × GateReport :=
  match Table.get s.vg.gates d with
  | none => (s, .nothing)
  | some g =>
    match g.state with
    | .toDivert => gateJams d true g.pending s
    | .toNormal => gateJams d false none s
    | _ => (updGate d (fun g => { g with travel := none }) s, .nothing)

end Sys2Proof.Machine
end

