-- ==== Sys2Proof/Machine/Groups.lean ====
section
/-! DEFINITION. GS, the Group Sequencer (Chapter 6): the step lists, the shutdown demand, the restart and the fan-trip
watch. -/

namespace Sys2Proof.Machine

/-- The list of a group that a runner runs. -/
def listOf (e : GroupEntry) (k : ListKind) : List ListStep :=
  match k with
  | .shutdown => e.shutdown
  | .restart => e.restart

/-- The infeed release outputs of a group's ducts, in duct order (06 R103). -/
def infeedOutputs (m : MillModel) (g : Nat) : List Nat :=
  (m.ducts.filter fun e => e.2.group = g).map fun e => e.2.infeedOut

/-- The owned points of a group (01 R6): its fan run output, the infeed release outputs of its ducts, and every
auxiliary output that a DRIVE step of either list names. -/
def ownedPoints (m : MillModel) (g : Nat) (e : GroupEntry) : List Nat :=
  firstOnly (e.fanOut :: infeedOutputs m g ++ (e.aux.map fun a => a.output).filter fun p =>
    (e.shutdown ++ e.restart).any fun st => match st with
      | .drive q _ => q = p
      | _ => false)

/-- The input and the level that a step awaits, and its timeout in s (06 R104, R106). -/
def awaits (e : GroupEntry) (st : ListStep) : Option (Nat × Bool × Nat) :=
  match st with
  | .await p made t => some (p, made, t)
  | .fan run => some (e.fanIn, run, e.fanTimeout)
  | _ => none

/-- Changes the runner of a group. -/
def updRunner (g : Nat) (f : Runner → Runner) (s : State) : State :=
  updGroup g (fun r => { r with runner := r.runner.map f }) s

/-- How a step stands once it is begun. -/
inductive Begun where
  | complete
  | waits (expiry : PartTime)
  | timesOut
deriving DecidableEq, Repr

/-- Begins to await an input (06 R104). -/
def beginAwait (p : Nat) (made : Bool) (timeout : Nat) (s : State) : Begun :=
  if inputMade s p = made then .complete
  else if timeout = 0 then .timesOut else .waits (s.now + seconds timeout)

/-- Begins a step of a list (06 R103-R106): what it drives, and how it then stands. -/
def beginStep (g : Nat) (e : GroupEntry) (k : ListKind) (st : ListStep) (s : State) : State × Begun :=
  match st with
  | .drive p on => (writeOut p on s, .complete)
  | .infeed release => (writeOuts (infeedOutputs s.model g) release s, .complete)
  | .await p made t => (s, beginAwait p made t s)
  | .pause d =>
    let immediate := (Table.get s.gs g).any fun r => r.priority == some .immediate
    (s, if d = 0 ∨ (k = .shutdown ∧ immediate = true) then .complete else .waits (s.now + seconds d))
  | .fan run =>
    let s1 := writeOut e.fanOut run (if run then s else updRunner g (fun r => { r with fanProven := false }) s)
    (s1, beginAwait e.fanIn run e.fanTimeout s1)

/-- A step completes (06 R106): a FAN RUN step sets the fan-proven flag. -/
def completeStep (g : Nat) (st : ListStep) (s : State) : State :=
  match st with
  | .fan true => updRunner g (fun r => { r with fanProven := true }) s
  | _ => s

/-- The point a step awaits, as STEP-FAULT names it. -/
def awaitedPoint (e : GroupEntry) (st : ListStep) : Nat :=
  match awaits e st with
  | some (p, _, _) => p
  | none => 0

/-- A step fault (06 R106): the fault record and its notice. -/
def stepFault (g : Nat) (e : GroupEntry) (k : ListKind) (n : Nat) (st : ListStep) (s : State) : State :=
  postNotice .fault (.stepFault g k n st (awaitedPoint e st))
    (updGroup g (fun r => { r with fault := some { list := k, step := n } }) s)

/-- How a run of steps stands. -/
inductive RunEnd where
  | waiting
  | completed
  | faulted (step : Nat)
deriving DecidableEq, Repr

/-- Runs the steps from number n on (06 R102): each step that completes when it is begun is followed at once by the
next; a step fault in a shutdown list counts as complete, and ends a restart list (06 R106). DESIGN CHOICE (log 42): a
FAN RUN step of a shutdown list that times out does not set the fan-proven flag. -/
def runSteps (g : Nat) (e : GroupEntry) (k : ListKind) (steps : List ListStep) (n : Nat) (s : State) : State × RunEnd :=
  match steps with
  | [] => (s, .completed)
  | st :: rest =>
    let s1 := updRunner g (fun r => { r with step := n, expiry := none }) s
    match beginStep g e k st s1 with
    | (s2, .complete) => runSteps g e k rest (n + 1) (completeStep g st s2)
    | (s2, .waits t) => (updRunner g (fun r => { r with expiry := some t }) s2, .waiting)
    | (s2, .timesOut) =>
      match k with
      | .shutdown => runSteps g e k rest (n + 1) (stepFault g e k n st s2)
      | .restart => (stepFault g e k n st s2, .faulted n)

/-- A group changes state (06 R99): the GROUP-STATE notice names the shutdown source when the new state is STOPPING,
and the last run when a run ends, that is when the old state is STOPPING or STARTING. -/
def setGroupState (g : Nat) (new : GroupState) (s : State) : State :=
  match Table.get s.gs g with
  | none => s
  | some r =>
    if r.state = new then s
    else
      let ended := r.state = .stopping ∨ r.state = .starting
      postNotice .state (.groupState g r.state new (if new = .stopping then r.source else none)
          (if ended then r.lastRun.map (fun l => (l.list, l.step)) else none))
        (updGroup g (fun r => { r with state := new }) s)

/-- A run of a list ends (06 R102, R107): the runner is removed and the run becomes the group's last run. -/
def endRun (g : Nat) (k : ListKind) (n : Nat) (o : RunOutcome) (s : State) : State :=
  updGroup g (fun r => { r with
    runner := none, lastRun := some { list := k, step := n, outcome := o, endedAt := s.now } }) s

/-- Goes on with a shutdown list from step n (06 R107: after its last step the group is STOPPED). -/
def runShutdown (g : Nat) (e : GroupEntry) (n : Nat) (s : State) : State :=
  match runSteps g e .shutdown (e.shutdown.drop (n - 1)) n s with
  | (s1, .completed) =>
    setGroupState g .stopped (updGroup g (fun r => { r with priority := none })
      (endRun g .shutdown e.shutdown.length .completed s1))
  | (s1, _) => s1

/-- Begins a run of a list (06 R102): the runner at step 1; the fault record is cleared unless a restart fault begins
a shutdown (06 R106). -/
def newRunner (g : Nat) (k : ListKind) (keepFault : Bool) (s : State) : State :=
  updGroup g (fun r => { r with
    runner := some { list := k, step := 1, expiry := none, fanProven := false }
    fault := if keepFault then r.fault else none }) s

/-- Begins a shutdown from RUNNING, or from STARTING once its restart run has ended (06 R109). -/
def beginShutdown (g : Nat) (e : GroupEntry) (p : Priority) (src : ShutdownSource) (s : State) : State :=
  let s1 := updGroup g (fun r => { r with priority := some p, source := some src }) s
  let s2 := setGroupState g .stopping (newRunner g .shutdown (src == .restartFault) s1)
  runShutdown g e 1 s2

/-- The demand priority is raised to IMMEDIATE (06 R109): a PAUSE that is waiting completes at once (06 R105). -/
def raisePriority (g : Nat) (e : GroupEntry) (s : State) : State :=
  let s1 := updGroup g (fun r => { r with priority := some .immediate }) s
  match (Table.get s1.gs g).bind fun r => r.runner with
  | none => s1
  | some r =>
    match e.shutdown[r.step - 1]? with
    | some (.pause _) => runShutdown g e (r.step + 1) s1
    | _ => s1

/-- A shutdown demand is taken by a group's state (06 R109). -/
def takeDemand (g : Nat) (e : GroupEntry) (p : Priority) (src : ShutdownSource) (s : State) : State :=
  match Table.get s.gs g with
  | none => s
  | some r =>
    match r.state with
    | .running => beginShutdown g e p src s
    | .starting =>
      let n := (r.runner.map fun x => x.step).getD 1
      beginShutdown g e p src (endRun g .restart n .abandoned s)
    | .stopping => if r.priority = some .normal ∧ p = .immediate then raisePriority g e s else s
    | .stopped => s

/-- A shutdown demand reaches GS (06 R108, R110): not taken outside RUN (06 R101), refused for an isolated group.
The result is the one IT enters (05 R89). -/
def shutdownDemand (g : Nat) (p : Priority) (src : ShutdownSource) (s : State) : State × ActionResult :=
  if s.lp.mode ≠ .run then (s, .done)
  else match Table.get s.gs g, Table.get s.model.groups g with
    | some r, some e =>
      if r.isolated then
        (postNotice .state (.groupRefused g src)
          (updGroup g (fun r => { r with refusals := satInc r.refusals Config.counterLimit }) s), .isolated)
      else (takeDemand g e p src s, .done)
    | _, _ => (s, .done)

/-- A fan trip (06 R111): its notice, then a NORMAL demand with source FAN-TRIP. -/
def fanTrips (g : Nat) (s : State) : State :=
  (shutdownDemand g .normal .fanTrip (postNotice .fault (.fanTrip g) s)).1

/-- Goes on with a restart list from step n (06 R106, R107): after its last step the group is RUNNING, and trips at
once when its fan feedback is not made; a step fault ends the run and begins a RESTART-FAULT shutdown. -/
def runRestart (g : Nat) (e : GroupEntry) (n : Nat) (s : State) : State :=
  match runSteps g e .restart (e.restart.drop (n - 1)) n s with
  | (s1, .waiting) => s1
  | (s1, .completed) =>
    let s2 := setGroupState g .running (endRun g .restart e.restart.length .completed s1)
    if inputMade s2 e.fanIn then s2 else fanTrips g s2
  | (s1, .faulted k) => beginShutdown g e .normal .restartFault (endRun g .restart k .faulted s1)

/-- Goes on with whichever list a group runs, from step n. -/
def runList (g : Nat) (e : GroupEntry) (k : ListKind) (n : Nat) (s : State) : State :=
  match k with
  | .shutdown => runShutdown g e n s
  | .restart => runRestart g e n s

/-- A restart is accepted (06 R114): the return demands for the group's DIVERTED gates whose ducts are in no incident,
then a run of the restart list. -/
def beginRestart (g : Nat) (e : GroupEntry) (s : State) : State :=
  let returned := (ductsOfGroup s.model g).foldl (fun t d =>
    if (Table.get t.vg.gates d).any (fun x => x.state == .diverted) && (incidentOf t (.duct d)).isNone
    then returnDemand d t else t) s
  let s1 := setGroupState g .starting (newRunner g .restart false returned)
  runRestart g e 1 s1

/-- The waiting step of a group's runner: the list, the step's number and the step (06 R102). -/
def waitingStep (s : State) (g : Nat) : Option (ListKind × Nat × ListStep × PartTime) :=
  match Table.get s.gs g, Table.get s.model.groups g with
  | some r, some e =>
    match r.runner with
    | some x =>
      match x.expiry, (listOf e x.list)[x.step - 1]? with
      | some t, some st => some (x.list, x.step, st, t)
      | _, _ => none
    | none => none
  | _, _ => none

/-- An awaited input reaches its level (06 R104): the waiting AWAIT or FAN step that names it completes. -/
def awaitChange (g p : Nat) (made : Bool) (s : State) : State :=
  match Table.get s.model.groups g, waitingStep s g with
  | some e, some (k, n, st, _) =>
    match awaits e st with
    | some (q, level, _) =>
      if q = p ∧ level = made then runList g e k (n + 1) (completeStep g st s) else s
    | none => s
  | _, _ => s

/-- The fan run feedback of a group changes (06 R111): a clearing trips a RUNNING group, and a STARTING group whose fan
has been proven; a making in STOPPED posts FAN-UNEXPECTED. -/
def feedbackChange (g : Nat) (made : Bool) (s : State) : State :=
  match Table.get s.gs g with
  | none => s
  | some r =>
    match r.state, made with
    | .running, false => fanTrips g s
    | .starting, false => if r.runner.any fun x => x.fanProven then fanTrips g s else s
    | .stopped, true => postNotice .fault (.fanUnexpected g) s
    | _, _ => s

/-- A group takes a change of an input point (06 R104, R111), the fan-trip watch first (log 30); in CONFIG it takes
none (06 R101). -/
def groupInputChange (g p : Nat) (made : Bool) (s : State) : State :=
  if s.lp.mode ≠ .run then s
  else
    let s1 := match Table.get s.model.groups g with
      | some e => if e.fanIn = p then feedbackChange g made s else s
      | none => s
    awaitChange g p made s1

/-- The waiting PAUSE of a group ends with its expiry (06 R105). -/
def pauseRunsOut (g : Nat) (s : State) : State :=
  match Table.get s.model.groups g, waitingStep s g with
  | some e, some (k, n, .pause _, t) => if due (some t) s.now then runList g e k (n + 1) s else s
  | _, _ => s

/-- The waiting AWAIT or FAN step of a group times out (06 R106): a step fault, which sets no fan-proven flag (log 42). -/
def stepRunsOut (g : Nat) (s : State) : State :=
  match Table.get s.model.groups g, waitingStep s g with
  | some e, some (k, n, st, t) =>
    if (awaits e st).isSome && due (some t) s.now then
      let s1 := stepFault g e k n st (updRunner g (fun r => { r with expiry := none }) s)
      match k with
      | .shutdown => runShutdown g e (n + 1) s1
      | .restart => beginShutdown g e .normal .restartFault (endRun g .restart n .faulted s1)
    else s
  | _, _ => s

end Sys2Proof.Machine
end

