-- ==== Sys2Proof/Machine/Walls.lean ====
section
/-! DEFINITION. CC, the Compartment Controller (Chapter 7): release, rehold, doors, dampers and the holder circuit. -/

namespace Sys2Proof.Machine

/-- CC reports a wall RELEASED to IT (07 R121): every PENDING RELEASE entry for the wall, in every incident, is DONE. -/
def markReleased (w : Nat) (s : State) : State :=
  { s with it := { s.it with incidents := s.it.incidents.map fun i => { i with
      actions := i.actions.map fun a =>
        if a.kind = .release ∧ a.target = w ∧ a.result = .pending then { a with result := .done } else a } } }

/-- A wall changes state (07 R118): WALL-STATE, of class FAULT for RELEASED with CIRCUIT in the cause set. -/
def setWallState (w : Nat) (new : WallState) (s : State) : State :=
  match Table.get s.cc.walls w with
  | none => s
  | some r =>
    if r.state = new then s
    else postNotice (if new = .released ∧ r.causes.circuit = true then .fault else .state)
      (.wallState w r.state new r.causes) (updWall w (fun r => { r with state := new }) s)

/-- The damper hold outputs of a wall's crossings, in crossing order. -/
def damperOutputs (m : MillModel) (w : Nat) : List Nat := (crossingsOfWall m w).map fun c => c.2.holdOut

/-- A door at entry to RELEASED (07 R119). -/
def doorReleased (expiry : PartTime) (d : Door) : Door :=
  match d.state with
  | .openHeld => { state := .closing, expiry := some expiry }
  | _ => d

/-- A crossing at entry to RELEASED (07 R120). -/
def crossingReleased (expiry : PartTime) (c : Crossing) : Crossing :=
  match c.state with
  | .opened => { state := .closing, expiry := some expiry }
  | _ => c

/-- A wall enters RELEASED (07 R123), in the order of the rule. -/
def enterReleased (w : Nat) (s : State) : State :=
  match Table.get s.model.walls w with
  | none => s
  | some e =>
    let s1 := updWall w (fun r => { r with warning := none }) s
    let s2 := writeOuts (damperOutputs s1.model w) false (writeOut e.beaconOut false (writeOut e.holderOut false s1))
    let s3 := updWall w (fun r => { r with
      releasedAt := some s.now, doors := r.doors.map (doorReleased (s.now + seconds e.doorTime)) }) s2
    let s4 := (crossingsOfWall s3.model w).foldl
      (fun t c => updCrossing c.1 (crossingReleased (s.now + seconds e.damperTime)) t) s3
    let s5 := setWallState w .released s4
    let s6 := (groupsCrossing s5.model w).foldl (fun t g => (shutdownDemand g .immediate .pathLost t).1) s5
    markReleased w s6

/-- A wall is released by a demand that has joined its cause set (07 R121, R122): a NORMAL wall warns, or enters
RELEASED at once when its warning time is 0; a WARNING or RELEASED wall stays. The result is IT's (05 R89). -/
def releaseByState (w : Nat) (s : State) : State × ActionResult :=
  match Table.get s.cc.walls w, Table.get s.model.walls w with
  | some r, some e =>
    match r.state with
    | .normal =>
      if e.warning = 0 then (enterReleased w s, .done)
      else
        let s1 := updWall w (fun r => { r with warning := some (s.now + seconds e.warning) })
          (writeOut e.beaconOut true s)
        (setWallState w .warning s1, .pending)
    | .warning => (s, .pending)
    | .released => (s, .done)
  | _, _ => (s, .done)

/-- IT's release demand for a wall and an incident (07 R121), refused by an isolated wall (07 R130). -/
def releaseDemand (w incident : Nat) (s : State) : State × ActionResult :=
  match Table.get s.cc.walls w with
  | none => (s, .done)
  | some r =>
    if r.isolated then
      (postNotice .state (.wallRefused w incident)
        (updWall w (fun r => { r with refusals := satInc r.refusals Config.counterLimit }) s), .isolated)
    else releaseByState w (updWall w (fun r => { r with causes := { r.causes with incident := true } }) s)

/-- A holder circuit that is not NORMAL releases the wall (07 R125). -/
def circuitRelease (w : Nat) (s : State) : State :=
  match Table.get s.cc.walls w with
  | none => s
  | some r =>
    let s1 := updWall w (fun r => { r with causes := { r.causes with circuit := true } }) s
    if r.state = .released then s1 else enterReleased w s1

/-- CM reports the holder monitor's circuit state (07 R125, R130). -/
def holderReport (w : Nat) (c : Circuit) (s : State) : State :=
  match Table.get s.cc.walls w with
  | none => s
  | some r =>
    let s1 := updWall w (fun r => { r with holder := c }) s
    if c = .normal ∨ r.isolated = true then s1 else circuitRelease w s1

/-- A warning is cancelled (07 R126, R129): beacon off, NORMAL. -/
def cancelWarning (w : Nat) (s : State) : State :=
  match Table.get s.model.walls w with
  | none => s
  | some e => setWallState w .normal (updWall w (fun r => { r with warning := none }) (writeOut e.beaconOut false s))

/-- Some compartment a wall adjoins is an origin compartment of a level-3 incident (07 R126, R129), with the incident.
DESIGN CHOICE (log 44): where both qualify it is A, and of several incidents it is the oldest. -/
def wallInterlock (s : State) (e : WallEntry) : Option (Nat × Nat) :=
  ((level3Over s e.compA).map fun i => (e.compA, i.id)).or
    (e.compB.bind fun c => (level3Over s c).map fun i => (c, i.id))

/-- A wall takes the close of an incident with these origin compartments (07 R126). -/
def closeAtWall (comps : List Nat) (w : Nat) (s : State) : State :=
  match Table.get s.cc.walls w, Table.get s.model.walls w with
  | some r, some e =>
    if r.state = .warning ∧ r.causes.incident = true ∧ comps.any (adjoins e) = true ∧ wallInterlock s e = none then
      let s1 := updWall w (fun r => { r with causes := { r.causes with incident := false } }) s
      if r.causes.manual then s1 else cancelWarning w s1
    else s
  | _, _ => s

/-- CC takes the close of an incident, for every wall (07 R126). DESIGN CHOICE (log 47): in increasing wall number. -/
def wallsTakeClose (comps : List Nat) (s : State) : State :=
  (s.cc.walls.map fun e => e.1).foldl (fun t w => closeAtWall comps w t) s

/-- A door at REHOLD (07 R119): by its switch. -/
def doorByInput (made : Bool) : Door := { state := if made then .shut else .openHeld, expiry := none }

/-- A crossing at REHOLD and at COMMIT (07 R120, 01 R16): by its closed input. -/
def crossingByInput (made : Bool) : Crossing := { state := if made then .closed else .opened, expiry := none }

/-- A RELEASED wall is reheld (07 R129). -/
def reholdReleased (w : Nat) (e : WallEntry) (s : State) : State :=
  let s1 := writeOuts (damperOutputs s.model w) true (writeOut e.holderOut true s)
  let s2 := updWall w (fun r => { r with
    causes := { incident := false, manual := false, circuit := false }
    doors := e.doors.map fun p => doorByInput (inputMade s1 p) }) s1
  let s3 := (crossingsOfWall s2.model w).foldl
    (fun t c => updCrossing c.1 (fun _ => crossingByInput (inputMade t c.2.closedIn)) t) s2
  setWallState w .normal s3

/-- A door takes a state; in a RELEASED wall a change posts DOOR-STATE (07 R119). Doors are numbered from 1. -/
def setDoor (w n : Nat) (new : Door) (s : State) : State :=
  match Table.get s.cc.walls w with
  | none => s
  | some r =>
    match r.doors[n - 1]? with
    | none => s
    | some old =>
      let s1 := updWall w (fun r => { r with doors := r.doors.set (n - 1) new }) s
      if r.state = .released ∧ old.state ≠ new.state then
        postNotice (if new.state = .stuck then .fault else .state) (.doorState w n new.state) s1
      else s1

/-- A door's closed-switch input changes its debounced level (07 R119). -/
def doorChange (w n : Nat) (made : Bool) (s : State) : State :=
  match Table.get s.cc.walls w, Table.get s.model.walls w with
  | some r, some e =>
    match r.doors[n - 1]? with
    | none => s
    | some d =>
      if r.state = .released then
        match d.state, made with
        | .closing, true => setDoor w n { state := .shut, expiry := none } s
        | .stuck, true => setDoor w n { state := .shut, expiry := none } s
        | .shut, false => setDoor w n { state := .closing, expiry := some (s.now + seconds e.doorTime) } s
        | _, _ => s
      else setDoor w n (doorByInput made) s
  | _, _ => s

/-- A released door's close expiry runs out (07 R119). -/
def doorRunsOut (w n : Nat) (s : State) : State :=
  match Table.get s.cc.walls w with
  | none => s
  | some r =>
    match (if n = 0 then none else r.doors[n - 1]?) with
    | none => s
    | some d =>
      if due d.expiry s.now then
        if d.state = .closing then setDoor w n { state := .stuck, expiry := none } s
        else setDoor w n { d with expiry := none } s
      else s

/-- A crossing takes a state, and posts DAMPER-STATE of a class (07 R120). -/
def setCrossing (c : Nat) (cls : NoticeClass) (new : Crossing) (s : State) : State :=
  postNotice cls (.damperState c new.state) (updCrossing c (fun _ => new) s)

/-- The wall of a crossing is RELEASED. -/
def wallReleased (s : State) (w : Nat) : Bool := (Table.get s.cc.walls w).any fun r => r.state == .released

/-- A crossing's damper closed input changes its debounced level (07 R120). -/
def damperChange (c : Nat) (made : Bool) (s : State) : State :=
  match Table.get s.cc.crossings c, Table.get s.model.crossings c with
  | some r, some e =>
    if wallReleased s e.wall then
      match r.state, made with
      | .closing, true => setCrossing c .state { state := .closed, expiry := none } s
      | .jammed, true => setCrossing c .state { state := .closed, expiry := none } s
      | .closed, false =>
        let t := ((Table.get s.model.walls e.wall).map fun w => w.damperTime).getD 0
        setCrossing c .state { state := .closing, expiry := some (s.now + seconds t) } s
      | _, _ => s
    else
      match r.state, made with
      | .opened, true => setCrossing c .fault { state := .closed, expiry := none } s
      | .closed, false => setCrossing c .state { state := .opened, expiry := none } s
      | _, _ => s
  | _, _ => s

/-- A closing damper's time runs out (07 R120). -/
def damperRunsOut (c : Nat) (s : State) : State :=
  match Table.get s.cc.crossings c with
  | none => s
  | some r =>
    if due r.expiry s.now then
      if r.state = .closing then setCrossing c .fault { state := .jammed, expiry := none } s
      else updCrossing c (fun r => { r with expiry := none }) s
    else s

end Sys2Proof.Machine
end

