-- ==== Sys2Proof/Machine/Sirens.lean ====
section
/-! DEFINITION. SC, the Siren Controller (Chapter 8): spans, demands, the selection of a pattern, cadences and the
siren test. -/

namespace Sys2Proof.Machine

/-! ## Spans (08 R134, R135) -/

/-- The length of a plain span: ((end − start) mod 16) + 1. -/
def plainLength (e : CompartmentEntry) : Nat := (e.spanEnd + Config.sectors - e.spanStart) % Config.sectors + 1

/-- A sector lies in the span of a start and a length: ((s − start) mod 16) is less than the length. -/
def inSpan (start length sector : Nat) : Bool := decide ((sector + Config.sectors - start) % Config.sectors < length)

/-- A sector lies in a compartment's plain span (08 R134). -/
def inPlain (e : CompartmentEntry) (sector : Nat) : Bool := inSpan e.spanStart (plainLength e) sector

/-- A sector lies in a compartment's widened span (08 R135). -/
def inWidened (e : CompartmentEntry) (sector : Nat) : Bool :=
  if Config.sectors ≤ plainLength e + 2 * e.margin then true
  else inSpan ((e.spanStart + Config.sectors - e.margin) % Config.sectors) (plainLength e + 2 * e.margin) sector

/-- A sector lies in the span over which a demand for a compartment is taken: widened for EVACUATE, plain for ALERT
(08 R139). -/
def inDemandSpan (m : MillModel) (c : Nat) (evacuate : Bool) (sector : Nat) : Bool :=
  match Table.get m.compartments c with
  | none => false
  | some e => if evacuate then inWidened e sector else inPlain e sector

/-! ## The selection and the cadence (08 R137, R138) -/

/-- The pattern the selection gives a siren (08 R137). -/
def selectPattern (r : Siren) : Option Pattern :=
  if r.isolated then none
  else if r.demands.any fun d => d.evacuate && !d.silenced then some .evacuate
  else if r.demands.any fun d => !d.evacuate && !d.silenced then some .alert
  else if r.testDemand then some .test
  else none

/-- The index of a pattern's entry. -/
def patternIndex (p : Pattern) : Nat :=
  match p with
  | .evacuate => 0
  | .alert => 1
  | .test => 2

/-- The on and off times of a pattern in the committed model. -/
def patternTimes (m : MillModel) (p : Pattern) : PatternEntry :=
  (Table.get m.patterns (patternIndex p)).getD { onTime := 0, offTime := 0 }

/-- The siren output follows the cadence phase: on while it is ON or STEADY (08 R136). -/
def driveSiren (n : Nat) (s : State) : State :=
  match Table.get s.sc.sirens n, Table.get s.model.sirens n with
  | some r, some e => writeOut e.output (r.phase == some .on || r.phase == some .steady) s
  | _, _ => s

/-- A siren selects its pattern anew; a different pattern restarts its cadence (08 R137, R138). -/
def reselect (n : Nat) (s : State) : State :=
  match Table.get s.sc.sirens n with
  | none => s
  | some r =>
    let p := selectPattern r
    if p = r.sounding then s
    else
      let s1 := updSiren n (fun r =>
        match p with
        | none => { r with sounding := none, phase := none, cadence := none }
        | some q =>
          if (patternTimes s.model q).offTime = 0 then
            { r with sounding := some q, phase := some .steady, cadence := none }
          else { r with
            sounding := some q, phase := some .on, cadence := some (s.now + ms (patternTimes s.model q).onTime) }) s
      driveSiren n s1

/-- The siren numbers that have a record, in increasing order. -/
def sirenNumbers (s : State) : List Nat := s.sc.sirens.map fun e => e.1

/-- Changes every siren of a list in order, each selecting its pattern anew. -/
def eachSiren (ns : List Nat) (f : Siren → Siren) (s : State) : State :=
  ns.foldl (fun t n => reselect n (updSiren n f t)) s

/-! ## Incident demands (08 R139, R140) -/

/-- The place of an incident in the table: demands are listed oldest incident first (08 R136). -/
def placeOf (order : List Nat) (id : Nat) : Nat := order.findIdx fun x => x == id

/-- Adds a demand at the place of its incident's age. -/
def insertDemand (order : List Nat) (d : Demand) (l : List Demand) : List Demand :=
  match l with
  | [] => [d]
  | x :: r => if placeOf order d.incident < placeOf order x.incident then d :: x :: r else x :: insertDemand order d r

/-- A siren in the span takes a demand of an incident (08 R139): added, raised from ALERT to EVACUATE, or kept. -/
def takeSirenDemand (order : List Nat) (id : Nat) (evacuate silenced : Bool) (r : Siren) : Siren :=
  if r.isolated then r
  else if r.demands.any fun d => d.incident = id then
    { r with demands := r.demands.map fun d => if d.incident = id then { d with evacuate := d.evacuate || evacuate } else d }
  else { r with demands := insertDemand order { incident := id, evacuate := evacuate, silenced := silenced } r.demands }

/-- The sirens in the span of a demand (08 R139). -/
def sirensInSpan (s : State) (c : Nat) (evacuate : Bool) : List Nat :=
  (sirenNumbers s).filter fun n => (Table.get s.model.sirens n).any fun e => inDemandSpan s.model c evacuate e.sector

/-- IT's ALERT or EVACUATE demand for an incident and a compartment (08 R139), with the result it returns: ISOLATED
when the span holds at least one siren and every siren in it is isolated. -/
def sirenDemand (id c : Nat) (evacuate : Bool) (s : State) : State × ActionResult :=
  let ns := sirensInSpan s c evacuate
  let silenced := (findIncident s id).any fun i => i.flags.silenced
  let order := s.it.incidents.map fun i => i.id
  (eachSiren ns (takeSirenDemand order id evacuate silenced) s,
    if !ns.isEmpty && ns.all fun n => (Table.get s.sc.sirens n).any fun r => r.isolated then .isolated else .done)

/-- Sets or clears the silenced flag of every demand of an incident on every siren (08 R140, R141, R142). -/
def setSilenced (id : Nat) (v : Bool) (s : State) : State :=
  eachSiren (sirenNumbers s) (fun r => { r with
    demands := r.demands.map fun d => if d.incident = id then { d with silenced := v } else d }) s

/-- Removes every demand of an incident from every siren (08 R140). -/
def removeDemands (id : Nat) (s : State) : State :=
  eachSiren (sirenNumbers s) (fun r => { r with demands := r.demands.filter fun d => d.incident ≠ id }) s

/-! ## The siren test (08 R146-R148) -/

/-- The sirens whose test fault mark is set, in increasing order. -/
def faultySirens (s : State) : List Nat := (s.sc.sirens.filter fun e => e.2.testFault).map fun e => e.1

/-- A test starts (08 R147). -/
def startTest (src : TestSource) (duration : Nat) (s : State) : State :=
  let s1 := { s with sc := { s.sc with test := some (src, s.now + seconds duration) } }
  let s2 := eachSiren ((sirenNumbers s1).filter fun n => (Table.get s1.sc.sirens n).any fun r => !r.isolated)
    (fun r => { r with testDemand := true, testFault := r.fault }) s1
  postNotice .state (.testStarted src duration) s2

/-- The test demands are removed and the state becomes IDLE; the marks stay for the notice. -/
def stopTest (s : State) : State :=
  eachSiren (sirenNumbers s) (fun r => { r with testDemand := false }) { s with sc := { s.sc with test := none } }

/-- The test fault marks are cleared. -/
def clearMarks (s : State) : State :=
  { s with sc := { s.sc with sirens := s.sc.sirens.map fun e => (e.1, { e.2 with testFault := false }) } }

/-- A running test is interrupted by a level-2 entry or by entry to CONFIG (08 R148). -/
def interruptTest (byConfig : Bool) (s : State) : State :=
  match s.sc.test with
  | none => s
  | some (src, _) =>
    let s1 := stopTest s
    clearMarks (postNotice .state (.testInterrupted src (faultySirens s1) byConfig) s1)

/-- The test expiry runs out: the test completes with TEST-RESULT (08 R147). -/
def completeTest (s : State) : State :=
  match s.sc.test with
  | none => s
  | some (src, _) =>
    let s1 := stopTest s
    clearMarks (postNotice .state (.sirenTestResult src (faultySirens s1)) s1)

/-- The duration of a test in s: the committed plan's T, or 10 s when the plan is absent (08 R147). -/
def testDuration (s : State) : Nat := (s.model.plan.map fun p => p.duration).getD Config.defaultTestTime

/-- A siren loses every demand at entry to CONFIG (08 R148): its cadence stops and its output is driven off. -/
def silenceForConfig (n : Nat) (s : State) : State :=
  driveSiren n (updSiren n (fun r => { r with
    demands := [], testDemand := false, sounding := none, phase := none, cadence := none }) s)

/-- SC takes the entry to CONFIG (08 R148): a running test is interrupted, and every siren falls silent. -/
def sirensToConfig (s : State) : State :=
  (sirenNumbers s).foldl (fun t n => silenceForConfig n t) (interruptTest true s)

/-- The scheduled test is judged at a minute change in RUN (08 R146). -/
def judgeSchedule (s : State) : State :=
  match s.model.plan with
  | none => s
  | some p =>
    let t := s.sc.clock.time
    if s.lp.mode = .run ∧ s.sc.clock.isSet = true ∧ p.enabled = true ∧ p.weekdays.getLsbD t.weekday = true ∧
        t.hour = p.hour ∧ t.minute = p.minute then
      if anyRaised s then postNotice .state (.testSkipped .incident) s
      else if s.sc.test.isSome then postNotice .state (.testSkipped .testRunning) s
      else startTest .scheduled p.duration s
    else s

/-- One second later (08 R144). -/
def nextSecond (t : Stamp) : Stamp :=
  if t.second < 59 then { t with second := t.second + 1 }
  else if t.minute < 59 then { t with second := 0, minute := t.minute + 1 }
  else if t.hour < 23 then { t with second := 0, minute := 0, hour := t.hour + 1 }
  else { day := if t.day < Config.counterLimit then t.day + 1 else 0, weekday := (t.weekday + 1) % 7,
         hour := 0, minute := 0, second := 0 }

/-- The siren's circuit is reported (08 R143). -/
def sirenReport (n : Nat) (c : Circuit) (s : State) : State :=
  updSiren n (fun r =>
    if c = .normal then { r with fault := false }
    else { r with fault := true, testFault := r.testFault || (s.sc.test.isSome && r.testDemand) }) s

/-- The demands a siren is given when it is restored (08 R143): one for each incident at level 2 or 3 whose span
reaches it, oldest first. -/
def demandsHeld (s : State) (sector : Nat) : List Demand :=
  s.it.incidents.filterMap fun i =>
    if 2 ≤ i.level ∧ (originCompartments s.model i).any (fun c => inDemandSpan s.model c (i.level == 3) sector) = true then
      some { incident := i.id, evacuate := i.level == 3, silenced := i.flags.silenced }
    else none

/-- A siren is isolated (08 R143). -/
def isolateSiren (n : Nat) (s : State) : State :=
  eachSiren [n] (fun r => { r with isolated := true, demands := [], testDemand := false, testFault := false }) s

/-- A siren is restored (08 R143). -/
def restoreSiren (n : Nat) (s : State) : State :=
  match Table.get s.model.sirens n with
  | none => s
  | some e =>
    eachSiren [n] (fun r => { r with
      isolated := false, demands := demandsHeld s e.sector, testDemand := s.sc.test.isSome,
      testFault := s.sc.test.isSome && r.fault }) s

end Sys2Proof.Machine
end

