-- ==== Sys2Proof/Machine/Transit.lean ====
section
/-! DEFINITION. TC, the Transit Calculator (Chapter 3): the velocity filter, the classification, the transit of an
upstream spark and the gate arrival. -/

namespace Sys2Proof.Machine

/-! ## The velocity record (03 R38-R40) -/

/-- A raw reading clamped to the range of a velocity (03 R38). -/
def clampReading (raw : Nat) : Nat := min raw Config.velocityLimit

/-- The filtered velocity after a reading (03 R38): v_f + trunc((raw − v_f) / 2^k), or raw when v_f is absent. -/
def filterVelocity (k : Nat) (vf : Option Nat) (raw : Nat) : Nat :=
  match vf with
  | none => raw
  | some v => ((v : Int) + Int.tdiv ((raw : Int) - (v : Int)) (2 ^ k)).toNat

/-- The conveying state of a record (03 R40): STALE when v_f is absent or the stale expiry has run out since the last
reading, that is when it is stopped. -/
def classify (vMin : Nat) (v : Velocity) : Conveying :=
  match v.vf, v.stale with
  | some f, some _ => if vMin ≤ f then .conveying else .slow
  | _, _ => .stale

/-- A duct's conveying state is decided again; a change posts DUCT-FLOW (03 R40). -/
def decideFlow (d : Nat) (s : State) : State :=
  match Table.get s.tc d, Table.get s.model.ducts d with
  | some v, some e =>
    let new := classify e.vMin v
    if new = v.state then s
    else postNotice .state (.ductFlow d v.state new v.vf v.readAt) (updVelocity d (fun v => { v with state := new }) s)
  | _, _ => s

/-- TC takes a flow reading of a duct (03 R38, R39). -/
def takeReading (d raw : Nat) (s : State) : State :=
  match Table.get s.model.ducts d with
  | none => s
  | some e =>
    let r := clampReading raw
    decideFlow d (updVelocity d (fun v => { v with
      vf := some (filterVelocity e.shift v.vf r), raw := some r, readAt := some s.now,
      stale := some (s.now + ms e.staleTime) }) s)

/-- The stale expiry of a duct runs out (03 R39). -/
def staleRunsOut (d : Nat) (s : State) : State :=
  match Table.get s.tc d with
  | none => s
  | some v => if due v.stale s.now then decideFlow d (updVelocity d (fun v => { v with stale := none }) s) else s

/-! ## The transit computation (03 R43-R49) -/

/-- ceil(a / b). -/
def ceilDiv (a b : Nat) : Nat := (a + b - 1) / b

/-- The velocity bounds v_hi and v_lo (03 R43); SLOW has none. -/
def velocityBounds (e : DuctEntry) (form : Conveying) (vf : Nat) : Option (Nat × Nat) :=
  match form with
  | .conveying => some (vf * (100 + e.tolerance) / 100, max (vf * (100 - e.tolerance) / 100) e.vMin)
  | .stale => some (e.vMax, e.vMin)
  | .slow => none

/-- The arrival offsets t_e and t_l in ms (03 R44). -/
def arrivalOffsets (e : DuctEntry) (dist : Nat) (bounds : Option (Nat × Nat)) : Nat × Nat :=
  match bounds with
  | some (hi, lo) => (dist * 1000 / hi, ceilDiv (dist * 1000) lo)
  | none => (0, e.wMax)

/-- The transit of a spark (03 R43-R49), from the detector's address and d, t0, now, the velocity record, the duct's
and the valve's entries, and whether the valve is FLOWING. -/
def computeTransit (e : DuctEntry) (ve : ValveEntry) (v : Velocity) (flowing : Bool) (addr dist : Nat)
    (t0 now : PartTime) : Transit :=
  let bounds := velocityBounds e v.state (v.vf.getD 0)
  let offs := arrivalOffsets e dist bounds
  let aE := t0 + ms offs.1
  let aL := t0 + ms offs.2
  let o := aE - ms ve.lead
  let missed := before aL now
  { detector := addr, t0 := t0, computedAt := now, form := v.state, vfUsed := v.vf,
    vHi := bounds.map fun b => b.1, vLo := bounds.map fun b => b.2, tE := offs.1, tL := offs.2, aE := aE, aL := aL,
    outcome := if missed then .missed else .queued (if before o now then now else o) (aL + ms ve.afterRun),
    marginal := !missed && !flowing && before aE (now + ms ve.lead) }

/-- TC's findings for IT (03 R49). -/
def findingsOf (t : Transit) : Findings := { form := t.form, outcome := t.outcome, marginal := t.marginal }

/-- TC takes an accepted upstream spark (03 R42): it computes the transit, hands the window to VG, and replaces the
transit record. -/
def takeTransit (d addr : Nat) (t0 : PartTime) (s : State) : State × Option Findings :=
  match Table.get s.tc d, Table.get s.model.ducts d, Table.get s.model.valves d, detectorAt s.model addr with
  | some v, some e, some ve, some de =>
    let flowing := (Table.get s.vg.valves d).any fun x => x.state == .flowing
    let t := computeTransit e ve v flowing addr (de.dist.getD 0) t0 s.now
    let s1 := match t.outcome with
      | .queued o c => takeWindow d { openAt := o, closeAt := c, sparks := 1 } s
      | .missed => s
    (updVelocity d (fun v => { v with transit := some t }) s1, some (findingsOf t))
  | _, _, _, _ => (s, none)

/-! ## Gate arrival (03 R51, R52) -/

/-- The gate arrival offset t_eg (03 R51). -/
def gateOffset (e : DuctEntry) (v : Velocity) (gateDist : Nat) : Nat :=
  match velocityBounds e v.state (v.vf.getD 0) with
  | some (hi, _) => gateDist * 1000 / hi
  | none => 0

/-- The GATE-LATE judgement for a spark named by its detector and t0 (03 R52). -/
def gateLate (d addr : Nat) (t0 : PartTime) (s : State) : Bool :=
  match Table.get s.tc d, Table.get s.model.ducts d, Table.get s.model.gates d, Table.get s.vg.gates d,
      detectorAt s.model addr with
  | some v, some e, some ge, some g, some de =>
    g.state != .diverted && before (t0 + ms (gateOffset e v (de.gateDist.getD 0))) (s.now + ms ge.travel)
  | _, _, _, _, _ => false

end Sys2Proof.Machine
end

