-- ==== Sys2Proof/Machine/Incidents.lean ====
section
/-! DEFINITION. IT, the Incident Table (Chapter 5): opening, rise, merge and close of an incident, the demands it
issues, and the taking of a spark and of VG's failures. -/

namespace Sys2Proof.Machine

/-! ## The action list (05 R89) -/

/-- Issues a demand of an incident (05 R89): not again when an entry of its kind and target stands; with no entry, and
counted among the further actions, when the list holds 24. A result of ISOLATED sets ISOLATED-ACTION (log 26). -/
def issue (id : Nat) (kind : ActionKind) (target : Nat) (demand : State → State × ActionResult) (s : State) : State :=
  match findIncident s id with
  | none => s
  | some i =>
    if i.actions.any fun a => a.kind = kind ∧ a.target = target then s
    else
      let r := demand s
      updIncident id (fun j =>
        let f := { j.flags with isolatedAction := j.flags.isolatedAction || r.2 == .isolated }
        if Config.actionLimit ≤ j.actions.length then { j with flags := f, further := satInc j.further 255 }
        else { j with
          flags := f
          actions := j.actions ++ [{ kind := kind, target := target, issuedAt := s.now, result := r.2 }] }) r.1

/-- VG reports the result of a pending divert (05 R89): the PENDING entry of the incident for that duct takes it. -/
def reportDivert (id d : Nat) (result : ActionResult) (s : State) : State :=
  updIncident id (fun i => { i with
    actions := i.actions.map fun a =>
      if a.kind = .divert ∧ a.target = d ∧ a.result = .pending then { a with result := result } else a }) s

/-! ## The actions of a level (05 R87, R88) -/

/-- The DIVERT of an origin duct with a gate (05 R87): the GATE-LATE judgement for the named spark, then the demand. -/
def divertOrigin (id d : Nat) (named : Option (Nat × PartTime)) (s : State) : State :=
  if (Table.get s.model.ducts d).any fun e => e.gatePresent then
    let late := named.any fun n => gateLate d n.1 n.2 s
    let s1 := updIncident id (fun i => { i with flags := { i.flags with gateLate := i.flags.gateLate || late } }) s
    issue id .divert d (divertDemand d id) s1
  else s

/-- The spark named for an origin duct: the one that brought the entry, or else the origin record's last spark source
(05 R87). -/
def namedSpark (o : Origin) (brought : Option (Nat × PartTime)) : Option (Nat × PartTime) :=
  match brought with
  | some n => some n
  | none => o.source

/-- The demand of a kind that IT issues for an incident, taken by the block it goes to (05 R87, R88). -/
def demandOf (id : Nat) (kind : ActionKind) (n : Nat) (s : State) : State × ActionResult :=
  match kind with
  | .divert => divertDemand n id s
  | .alert => sirenDemand id n false s
  | .evacuate => sirenDemand id n true s
  | .shutdown => shutdownDemand n .normal .incident s
  | .release => releaseDemand n id s

/-- Issues demands of an incident in turn, each with its kind and target. -/
def issueAll (id : Nat) (l : List (ActionKind × Nat)) (s : State) : State :=
  l.foldl (fun t x => issue id x.1 x.2 (demandOf id x.1 x.2) t) s

/-- The compartments of a list of origins, each once, in the order of the list (05 R79). -/
def compartmentsOf (m : MillModel) (os : List Origin) : List Nat := firstOnly (os.filterMap fun o => compartmentOf m o.id)

/-- The groups of the ducts of a list of origins, each once, in the order of the list (05 R88). -/
def groupsOf (m : MillModel) (os : List Origin) : List Nat :=
  firstOnly (os.filterMap fun o => match o.id with
    | .duct d => (Table.get m.ducts d).map fun e => e.group
    | .compartment _ => none)

/-- The level-2 actions for a list of origins (05 R87): DIVERT for each origin duct with a gate, then ALERT for each
origin compartment. DESIGN CHOICE (log 45): of several origins, in the order of the record. -/
def level2Actions (id : Nat) (os : List Origin) (brought : Option (Nat × PartTime)) (s : State) : State :=
  issueAll id ((compartmentsOf s.model os).map fun c => (.alert, c))
    (os.foldl (fun t o => match o.id with
      | .duct d => divertOrigin id d (namedSpark o brought) t
      | .compartment _ => t) s)

/-- The level-3 demands for a list of origins (05 R88), each group, wall and compartment once. DESIGN CHOICE (log 45): of
several origins, every SHUTDOWN in the order of the record, then every RELEASE in wall order, then every EVACUATE in the
order of the record. DEDUCED (log 50): a compartment origin gives no SHUTDOWN, also where a duct of it is in walk test. -/
def level3Demands (m : MillModel) (os : List Origin) : List (ActionKind × Nat) :=
  ((groupsOf m os).map fun g => (.shutdown, g)) ++
    ((m.walls.filter fun e => (compartmentsOf m os).any fun c => adjoins e.2 c).map fun e => (.release, e.1)) ++
    (compartmentsOf m os).map fun c => (.evacuate, c)

/-- The level-3 actions for a list of origins (05 R88). -/
def level3Actions (id : Nat) (os : List Origin) (s : State) : State := issueAll id (level3Demands s.model os) s

/-! ## Rise (05 R86, R92) -/

/-- A set of causes with others added, in the order of R78. -/
def addCauses (new old : List Cause) : List Cause :=
  [Cause.firstSpark, .ember, .burst, .confirm, .valveFail, .valveUnavailable, .missed, .gateFail, .burstHigh,
    .confirmRepeat, .unackTimeout, .manual].filter fun c => old.contains c || new.contains c

/-- The unacked expiry an incident takes on entering level 2, or at a merge at level 2 (05 R92): E of its primary
origin duct from now, unless E is 0. -/
def unackedStart (s : State) (i : Incident) : Option PartTime :=
  match i.primary.id with
  | .duct d =>
    match Table.get s.model.ducts d with
    | some e => if e.escalation = 0 then none else some (s.now + seconds e.escalation)
    | none => none
  | .compartment _ => none

/-- An entry to a level from a lower one (05 R86 to R88, R92, 08 R148): an entry to level 2 or above from below level 2
ends a running siren test; the actions of each level entered follow in increasing order. DESIGN CHOICE (log 48): the
test ends before the demands of the entry are taken. -/
def enterLevels (id old new : Nat) (os : List Origin) (brought : Option (Nat × PartTime)) (s : State) : State :=
  let s1 := if old < 2 ∧ 2 ≤ new then level2Actions id os brought (interruptTest false s) else s
  if old < 3 ∧ 3 ≤ new then level3Actions id os s1 else s1

/-- An incident rises (05 R86), in the order of the rule; a criterion that brings no higher level adds its causes and
changes nothing else. The notice names the causes added: those the set did not hold (log 25). -/
def rise (id new : Nat) (causes : List Cause) (brought : Option (Nat × PartTime)) (s : State) : State :=
  match findIncident s id with
  | none => s
  | some i =>
    if i.level < new then
      let added := causes.filter fun c => !i.causes.contains c
      let s1 := updIncident id (fun j => { j with
        level := new, causes := addCauses causes j.causes, acked := false,
        flags := { j.flags with silenced := false }, resound := none, quiet := none,
        unacked := if new = 2 then unackedStart s i else none }) s
      let s2 := setSilenced id false s1
      let s3 := enterLevels id i.level new (originsOf i) brought s2
      postNotice .alarm (.incidentRisen id i.level new added ((originsOf i).map fun o => o.id)) s3
    else updIncident id (fun j => { j with causes := addCauses causes j.causes }) s

/-! ## Open, close, merge (05 R77, R82, R95-R97) -/

/-- The next incident id (05 R77): the one after the last allocated, counting 255 to 1, skipping held ids. -/
def nextId (held : List Nat) (tries last : Nat) : Nat :=
  let n := if 255 ≤ last then 1 else last + 1
  match tries with
  | 0 => n
  | k + 1 => if held.contains n then nextId held k n else n

/-- An incident record as it is opened (05 R82). -/
def newIncident (s : State) (id : Nat) (o : OriginId) (level : Nat) (cause : Cause) : Incident :=
  { id := id, level := level, acked := false,
    primary := { id := o, lastSpark := none, held := false, source := none }, merged := [],
    openedAt := s.now, stamp := if s.sc.clock.isSet then some s.sc.clock.time else none, lastSpark := none,
    sparks := 0, causes := [cause],
    flags := { marginal := false, gateLate := false, merged := false, isolatedAction := false, silenced := false },
    actions := [], further := 0, unacked := none, quiet := none, resound := none }

/-- IT opens an incident (05 R82, R85): the record at the end of the list, the actions of the levels entered, the
INCIDENT notice. -/
def openIncident (o : OriginId) (level : Nat) (cause : Cause) (brought : Option (Nat × PartTime)) (s : State) :
    State × Nat :=
  let id := nextId (s.it.incidents.map fun i => i.id) 255 s.it.lastId
  let i := newIncident s id o level cause
  let i := { i with unacked := if level = 2 then unackedStart s i else none }
  let s1 := { s with it := { s.it with incidents := s.it.incidents ++ [i], lastId := id } }
  let s2 := enterLevels id 0 level (originsOf i) brought s1
  (postNotice (if 2 ≤ level then .alarm else .state) (.incidentOpened id o level cause) s2, id)

/-- An incident closes (05 R95), in the order of the rule; CC then takes the close (07 R126). DESIGN CHOICE (log 47): the
return demands, among which the rule gives no order, are sent in the order of the origins in the record. -/
def closeIncident (id : Nat) (way : CloseWay) (s : State) : State :=
  match findIncident s id with
  | none => s
  | some i =>
    let s1 := removeDemands id s
    let s2 := (originDucts i).foldl (fun t d =>
      match Table.get t.model.ducts d with
      | some e =>
        if e.gatePresent && (Table.get t.gs e.group).any fun g => g.state == .running then returnDemand d t else t
      | none => t) s1
    let s3 := (originDucts i).foldl (fun t d => updSparks d (fun r => { r with ring := [] }) t) s2
    let s4 := { s3 with it := { s3.it with incidents := s3.it.incidents.filter fun j => j.id ≠ id } }
    let s5 := postNotice .state
      (.incidentClosed id way i.level i.sparks ((originsOf i).map fun o => o.id)) s4
    wallsTakeClose (originCompartments s.model i) s5

/-- The incident of a list that has the highest level, the oldest among those of equal level (05 R97). -/
def highestOldest (l : List Incident) : Option Incident :=
  l.foldl (fun best i => match best with
    | none => some i
    | some b => if b.level < i.level then some i else some b) none

/-- The incident a new origin is merged into (05 R97). -/
def mergeTarget (s : State) (o : OriginId) : Option Incident :=
  let cands := s.it.incidents.filter fun i => decide (i.merged.length < Config.mergedLimit)
  let sharing := cands.filter fun i => (compartmentOf s.model o).any fun c => (originCompartments s.model i).contains c
  highestOldest (if sharing.isEmpty then cands else sharing)

/-- A new origin is merged into a held incident (05 R97). -/
def mergeOrigin (o : OriginId) (i : Incident) (brought : Option (Nat × PartTime)) (s : State) : State :=
  let r : Origin := { id := o, lastSpark := none, held := false, source := none }
  let s1 := updIncident i.id (fun j => { j with
    merged := j.merged ++ [r], acked := false, resound := none,
    flags := { j.flags with merged := true, silenced := false },
    unacked := if j.level = 2 then unackedStart s i else j.unacked }) s
  let s2 := setSilenced i.id false s1
  let s3 := if 2 ≤ i.level then level2Actions i.id [r] brought s2 else s2
  let s4 := if 3 ≤ i.level then level3Actions i.id [r] s3 else s3
  postNotice .alarm (.incidentMerged i.id o) s4

/-- A new origin arrives (05 R80, R85, R96, R97): its incident is opened, in the place of a force-closed level-1
incident when the table is full, or the origin is merged when the full table holds none. Answers the incident that then
holds it, and whether that incident was opened for it. -/
def placeOrigin (o : OriginId) (level : Nat) (cause : Cause) (brought : Option (Nat × PartTime)) (s : State) :
    State × Nat × Bool :=
  if s.it.incidents.length < Config.incidentLimit then
    let r := openIncident o level cause brought s
    (r.1, r.2, true)
  else match s.it.incidents.find? fun i => i.level = 1 with
    | some old =>
      let r := openIncident o level cause brought (closeIncident old.id .forced s)
      (r.1, r.2, true)
    | none =>
      match mergeTarget s o with
      | some i => (mergeOrigin o i brought s, i.id, false)
      | none => (s, 0, false)

/-! ## Taking a spark (05 R80-R83) -/

/-- An accepted spark as it reaches IT (05 R80). -/
structure AcceptedSpark where
  duct : Nat
  detector : Nat
  role : Role
  kind : ReportKind
  t0 : PartTime
  findings : Option Findings
deriving DecidableEq, Repr

/-- The spark is MISSED by TC's findings. -/
def sparkMissed (k : AcceptedSpark) : Bool := k.findings.any fun f => f.outcome == .missed

/-- An UPSTREAM spark is unextinguished when it is MISSED or the valve is UNAVAILABLE (05 R80). -/
def unextinguished (k : AcceptedSpark) (unavail : Bool) : Bool := k.role == .upstream && (sparkMissed k || unavail)

/-- A detection time appended to a ring that holds at most 16 (05 R76). -/
def pushRing (t0 : PartTime) (ring : List PartTime) : List PartTime :=
  (if Config.ringLimit ≤ ring.length then ring.tail else ring) ++ [t0]

/-- The total spark counter is raised; a wrap sets the wrap flag and posts COUNTER-WRAP (05 R76). -/
def countSpark (d : Nat) (s : State) : State :=
  match Table.get s.it.sparks d with
  | none => s
  | some r =>
    if r.total < Config.counterLimit then updSparks d (fun r => { r with total := r.total + 1 }) s
    else postNotice .state (.counterWrap d) (updSparks d (fun r => { r with total := 0, wrapped := true }) s)

/-- The origin record of a duct takes a spark (05 R80). -/
def originTakes (k : AcceptedSpark) (now : PartTime) (o : Origin) : Origin :=
  if o.id = .duct k.duct then { o with lastSpark := some now, held := false, source := some (k.detector, k.t0) } else o

/-- IT records a spark in its incident (05 R80). -/
def recordSpark (id : Nat) (k : AcceptedSpark) (s : State) : State :=
  let s1 := if k.role = .upstream then updSparks k.duct (fun r => { r with ring := pushRing k.t0 r.ring }) s else s
  let s2 := countSpark k.duct s1
  updIncident id (fun i => { i with
    sparks := satInc i.sparks Config.counterLimit, lastSpark := some s.now,
    primary := originTakes k s.now i.primary, merged := i.merged.map (originTakes k s.now),
    flags := { i.flags with marginal := i.flags.marginal || (k.findings.any fun f => f.marginal) } }) s2

/-- The ring entries whose t0 is not before now − S (05 R83). -/
def ringCount (ring : List PartTime) (now : PartTime) (window : Nat) : Nat :=
  (ring.filter fun t => !before t (now - ms window)).length

/-- The criteria that hold for a spark, each with its level and cause (05 R83). -/
def criteria (e : DuctEntry) (ring : List PartTime) (now : PartTime) (k : AcceptedSpark) (confirmed unavail : Bool) :
    List (Nat × Cause) :=
  [ (decide (e.n1 ≤ ringCount ring now e.s1), 2, Cause.burst),
    (k.kind == .ember, 2, .ember),
    (k.role == .downstream && !confirmed, 2, .confirm),
    (k.role == .upstream && sparkMissed k, 2, .missed),
    (k.role == .upstream && unavail, 2, .valveUnavailable),
    (decide (e.n2 ≤ ringCount ring now e.s2), 3, .burstHigh),
    (k.role == .downstream && confirmed, 3, .confirmRepeat)
  ].filterMap fun c => if c.1 then some c.2 else none

/-- IT applies the criteria to the incident, as one rise (05 R83). -/
def applyCriteria (id : Nat) (k : AcceptedSpark) (confirmed : Bool) (s : State) : State :=
  match Table.get s.model.ducts k.duct with
  | none => s
  | some e =>
    let ring := ((Table.get s.it.sparks k.duct).map fun r => r.ring).getD []
    let hold := criteria e ring s.now k confirmed (valveUnavailable s k.duct)
    rise id ((hold.map fun c => c.1).foldl max 0) (hold.map fun c => c.2) (some (k.detector, k.t0)) s

/-- A level-1 incident's quiet expiry is set at each accepted spark (05 R80, R93). -/
def setQuiet (id d : Nat) (s : State) : State :=
  match Table.get s.model.ducts d with
  | none => s
  | some e => updIncident id (fun i => if i.level = 1 then { i with quiet := some (s.now + ms e.quiet) } else i) s

/-- CONFIRM is among the causes of an incident. -/
def isConfirmed (s : State) (id : Nat) : Bool := (findIncident s id).any fun i => i.causes.contains .confirm

/-- IT takes an accepted spark (05 R80): finds or places its incident, records it, applies the criteria, sets the quiet
expiry, posts the SPARK notice. -/
def takeSpark (k : AcceptedSpark) (s : State) : State :=
  let placed : State × Nat × Bool := match incidentOf s (.duct k.duct) with
    | some i => (s, i.id, false)
    | none =>
      if k.role = .upstream then placeOrigin (.duct k.duct) 1 .firstSpark (some (k.detector, k.t0)) s
      else placeOrigin (.duct k.duct) 2 .confirm (some (k.detector, k.t0)) s
  let id := placed.2.1
  let confirmed := !placed.2.2 && isConfirmed placed.1 id
  let unext := unextinguished k (valveUnavailable placed.1 k.duct)
  let s1 := setQuiet id k.duct (applyCriteria id k confirmed (recordSpark id k placed.1))
  let level := ((findIncident s1 id).map fun i => i.level).getD 0
  postNotice .state (.spark k.duct k.detector k.role k.kind k.t0 s1.now id level k.findings unext) s1

/-! ## VG's failures (05 R84) -/

/-- IT takes VALVE-FAIL for a duct: a rise of one level, if the duct is in an incident. -/
def takeValveFail (d : Nat) (s : State) : State :=
  match incidentOf s (.duct d) with
  | none => s
  | some i => rise i.id (min (i.level + 1) 3) [.valveFail] none s

/-- IT takes GATE-FAIL for a duct: a rise to 3, if the duct is in an incident. -/
def takeGateFail (d : Nat) (s : State) : State :=
  match incidentOf s (.duct d) with
  | none => s
  | some i => rise i.id 3 [.gateFail] none s

/-- IT takes what a gate event hands it (04 R73, R74; 05 R84, R89). -/
def takeGateReport (d : Nat) (r : State × GateReport) : State :=
  match r.2 with
  | .nothing => r.1
  | .divertDone id => reportDivert id d .done r.1
  | .gateFail pending =>
    takeGateFail d (match pending with
      | some id => reportDivert id d .failed r.1
      | none => r.1)

/-- IT's last spark of an origin is at least Q before now, or absent (05 R94): a held one is (R81). -/
def originQuiet (now : PartTime) (q : Nat) (o : Origin) : Bool :=
  match lastSparkOf o now with
  | none => true
  | some t => atLeastAgo t now q

/-- The origin record of a duct in an incident. -/
def originOn (i : Incident) (d : Nat) : Option Origin := (originsOf i).find? fun o => o.id = .duct d

/-- The first origin duct, in origin order, that is not quiet (05 R94). -/
def notQuiet (s : State) (i : Incident) : Option Nat :=
  (originDucts i).find? fun d =>
    !((originOn i d).all fun o => originQuiet s.now (((Table.get s.model.ducts d).map fun e => e.quiet).getD 0) o)

/-- The first origin duct, in origin order, whose valve is not at rest (05 R94). -/
def valveBusy (s : State) (i : Incident) : Option Nat := (originDucts i).find? fun d => !valveAtRest s d

/-- The quiet expiry of a level-1 incident runs out (05 R93). -/
def quietRunsOut (id : Nat) (s : State) : State :=
  match findIncident s id with
  | none => s
  | some i =>
    if due i.quiet s.now then
      match i.primary.id with
      | .duct d =>
        if valveAtRest s d then closeIncident id .auto s
        else
          let q := ((Table.get s.model.ducts d).map fun e => e.quiet).getD 0
          updIncident id (fun j => { j with quiet := some (s.now + ms q) }) s
      | .compartment _ => updIncident id (fun j => { j with quiet := none }) s
    else s

/-- The unacked expiry of an incident runs out (05 R92). -/
def unackedRunsOut (id : Nat) (s : State) : State :=
  match findIncident s id with
  | none => s
  | some i => if due i.unacked s.now then rise id 3 [.unackTimeout] none s else s

/-- The silence re-sound expiry of an incident runs out (08 R142). -/
def resoundRunsOut (id : Nat) (s : State) : State :=
  match findIncident s id with
  | none => s
  | some i =>
    if due i.resound s.now then
      postNotice .alarm (.incidentResounded id) (setSilenced id false
        (updIncident id (fun j => { j with resound := none, flags := { j.flags with silenced := false } }) s))
    else s

/-- The entries of a duct's ring that stand more than 60,000 ms before now leave it (05 R81). -/
def ageRing (d : Nat) (s : State) : State :=
  updSparks d (fun r => { r with ring := r.ring.filter fun t => !moreThanAgo t s.now Config.ringAge }) s

/-- An origin's last spark is held once it stands 600,000 ms before now (05 R81). -/
def holdOrigin (d : Nat) (now : PartTime) (o : Origin) : Origin :=
  if o.id = .duct d ∧ (o.lastSpark.any fun t => atLeastAgo t now Config.heldAge) = true then { o with held := true }
  else o

/-- The last spark of an origin duct is held (05 R81). -/
def holdLastSpark (d : Nat) (s : State) : State :=
  { s with it := { s.it with incidents := s.it.incidents.map fun i => { i with
      primary := holdOrigin d s.now i.primary, merged := i.merged.map (holdOrigin d s.now) } } }

end Sys2Proof.Machine
end

