-- ==== Sys2Proof/Machine/Loop.lean ====
section
/-! DEFINITION. LC, the Loop Controller (Chapters 2 and 10): the device records, the loop state, polling and the choice
of a frame, the command slot, the reports and the walk test. -/

namespace Sys2Proof.Machine

/-! ## Device records and blindness (02 R23, R24, R31) -/

/-- LC posts the blindness of a duct when it differs from what it was (02 R31). -/
def postBlind (d : Nat) (was : Bool) (s : State) : State :=
  if ductBlind s d = was then s
  else postNotice (if was then .state else .fault) (.ductBlind d was) s

/-- A device record takes a state (02 R23): a change posts DEVICE-STATE, and a change of an UPSTREAM detector decides
the blindness of its duct again (02 R31). -/
def setDevice (a : Nat) (new : DeviceState) (s : State) : State :=
  match Table.get s.lc.roster a with
  | none => s
  | some r =>
    if r.state = new then s
    else
      let s1 := postNotice (if new = .missing then .fault else .state) (.deviceState a r.state new)
        (updDevice a (fun r => { r with state := new }) s)
      if r.kind = .detector .upstream then postBlind r.duct (ductBlind s r.duct) s1 else s1

/-- The state that a detector's poll flags give (02 R23). -/
def stateOfFlags (f : PollFlags) : DeviceState := if f.soiled || f.fault then .degraded else .normal

/-- The state a detector record takes at RESTORE (02 R24). -/
def restoredState (r : Device) : DeviceState :=
  if Config.missLimit ≤ r.misses then .missing
  else match r.flags with
    | none => .unknown
    | some f => stateOfFlags f

/-- A record takes the state an answer gives it, unless it is ISOLATED (02 R23). -/
def answerState (a : Nat) (new : DeviceState) (s : State) : State :=
  if (Table.get s.lc.roster a).any fun r => r.state == .isolated then s else setDevice a new s

/-- The address is held by a detector record (02 R32, 10 R161). -/
def holdsDetector (s : State) (a : Nat) : Bool :=
  (Table.get s.lc.roster a).any fun r => match r.kind with
    | .detector _ => true
    | .flow => false

/-! ## Counters of the loop -/

/-- The loop error count is raised (02 R25). -/
def countLoopError (s : State) : State :=
  { s with lc := { s.lc with errors := satInc s.lc.errors Config.counterLimit } }

/-- The foreign report count is raised (02 R26). -/
def countForeign (s : State) : State :=
  { s with lc := { s.lc with foreign := satInc s.lc.foreign Config.counterLimit } }

/-! ## The command slot (02 R32-R35) -/

/-- A READ-STATUS as it enters the slot: its first attempt starts there (02 R34; log 16). -/
def newRead (a : Nat) (automatic : Bool) (now : PartTime) : LoopCommand :=
  .read a automatic 1 true (now + ms Config.attemptTime)

/-- An automatic read enters the slot (02 R33): whenever the slot is empty, the set is not empty and the loop is UP. -/
def autoIssue (s : State) : State :=
  match s.lc.state, s.lc.slot, s.lc.autoReads with
  | .up, none, a :: _ => { s with lc := { s.lc with slot := some (newRead a true s.now) } }
  | _, _, _ => s

/-- The slot is emptied. -/
def emptySlot (s : State) : State := { s with lc := { s.lc with slot := none } }

/-- An address leaves the auto-read pending set (02 R33). -/
def dropAutoRead (a : Nat) (s : State) : State :=
  { s with lc := { s.lc with autoReads := s.lc.autoReads.filter fun x => x ≠ a } }

/-- A read in the slot is ended by the loop going DOWN or by COMMIT (02 R34): a host read posts NO-ANSWER. A detector
test is left as it is. -/
def abandonRead (s : State) : State :=
  match s.lc.slot with
  | some (.read a automatic _ _ _) =>
    if automatic then emptySlot s else postNotice .state (.status a false none) (emptySlot s)
  | _ => s

/-- An address matches a TEST-FIRE (02 R20). -/
def matchesTest (target mask : LoopAddr) (a : Nat) : Bool :=
  target.toNat = Config.allDevices || (BitVec.ofNat 6 a ^^^ target) &&& ~~~mask = 0#6

/-- A new TEST report is counted into a detector test in its collection window, or discarded (02 R28, R35). DEDUCED (log
37): an address of 0 or 63 that matches the test is counted like any other. -/
def countTest (a : Nat) (s : State) : State :=
  match s.lc.slot with
  | some (.test target mask due (some w) answered) =>
    if matchesTest target mask a then
      { s with lc := { s.lc with slot := some (.test target mask due (some w) (insertNat a answered)) } }
    else s
  | _ => s

/-- The detector records that match a test and have not answered it (02 R35). -/
def notAnswered (s : State) (target mask : LoopAddr) (answered : List Nat) : List Nat :=
  (s.lc.roster.map fun e => e.1).filter fun a =>
    holdsDetector s a && matchesTest target mask a && !answered.contains a

/-- The collection window of a detector test runs out (02 R35). -/
def testRunsOut (s : State) : State :=
  match s.lc.slot with
  | some (.test target mask _ (some w) answered) =>
    if due (some w) s.now then
      autoIssue (postNotice .state (.loopTestResult answered (notAnswered s target mask answered)) (emptySlot s))
    else s
  | _ => s

/-- An attempt of a READ-STATUS runs out (02 R34). DESIGN CHOICE (log 52): a frame of it that is still unsent lapses, so the
next attempt has one frame due. -/
def attemptRunsOut (s : State) : State :=
  match s.lc.slot with
  | some (.read a automatic n _ t) =>
    if due (some t) s.now then
      if n < Config.attemptLimit then
        { s with lc := { s.lc with slot := some (.read a automatic (n + 1) true (s.now + ms Config.attemptTime)) } }
      else
        let s1 := emptySlot s
        autoIssue (postNotice .state (.status a automatic none) (if automatic then dropAutoRead a s1 else s1))
    else s
  | _ => s

/-- A STATUS answer ends the read that named its address (02 R28, R34); any other is discarded. -/
def takeStatus (a : Nat) (answer : DeviceStatus) (s : State) : State :=
  match s.lc.slot with
  | some (.read b automatic _ _ _) =>
    if b = a then
      postNotice .state (.status a automatic (some answer))
        (dropAutoRead a (emptySlot (updDevice a (fun r => { r with status := some answer }) s)))
    else s
  | _ => s

/-! ## The loop state (02 R29, R30) -/

/-- The loop becomes UP (02 R30): every poll falls due at once. -/
def loopUp (s : State) : State :=
  postNotice .state .loopState { s with lc := { s.lc with
    state := .up
    retry := none
    silence := some (s.now + ms Config.silenceTime)
    roster := s.lc.roster.map fun e => (e.1, { e.2 with pollAt := s.now, pollDue := true }) } }

/-- A record on entry to DOWN (02 R29). -/
def deviceDown (r : Device) : Device :=
  { r with misses := Config.missLimit, pollDue := false,
           state := if r.state = .isolated then .isolated else .missing }

/-- The loop becomes DOWN (02 R29): the LOOP-STATE notice stands for the records and ducts that fall with it. -/
def loopDown (s : State) : State :=
  abandonRead (postNotice .fault .loopState { s with lc := { s.lc with
    state := .down
    silence := none
    retry := some (s.now + ms Config.retryTime)
    ackOwed := none
    sent := none
    answerSlot := none
    roster := s.lc.roster.map fun e => (e.1, deviceDown e.2) } })

/-- A device frame with a good check (02 R29, R30): it restarts the silence expiry, or ends a retry. -/
def goodFrame (s : State) : State :=
  match s.lc.state with
  | .idle => s
  | .up => { s with lc := { s.lc with silence := some (s.now + ms Config.silenceTime) } }
  | .down => loopUp s

/-- The silence expiry runs out (02 R29): the line stays powered. -/
def silenceRunsOut (s : State) : State :=
  if s.lc.state = .up ∧ due s.lc.silence s.now = true then loopDown s else s

/-- Overcurrent (02 R29, R30): power off at once; an UP loop becomes DOWN. -/
def overcurrent (s : State) : State :=
  let s1 := { s with lc := { s.lc with powered := false, answerSlot := none } }
  match s.lc.state with
  | .idle => s
  | .up => loopDown s1
  | .down => s1

/-- The next address of the roster after one, from the highest back to the lowest (02 R30). -/
def nextAddress (roster : Table Device) (a : Nat) : Option Nat :=
  match roster.find? fun e => a < e.1 with
  | some e => some e.1
  | none => roster.head?.map fun e => e.1

/-- LC makes one retry (02 R30). -/
def retryRunsOut (s : State) : State :=
  if s.lc.state = .down ∧ due s.lc.retry s.now = true then
    let next := nextAddress s.lc.roster s.lc.retryPos
    { s with lc := { s.lc with
      powered := true
      retry := some (s.now + ms Config.retryTime)
      retryPos := next.getD s.lc.retryPos
      sent := next.map .poll
      answerSlot := next } }
  else s

/-! ## Polling and the choice of a frame (02 R21) -/

/-- One of two polls is taken first: the nearer to falling due, or the lower address of a tie (02 R21). -/
def pollFirst (x y : Nat × Device) : Nat × Device := if before y.2.pollAt x.2.pollAt then y else x

/-- The poll of a list of records that is taken first (02 R21). DEDUCED (log 17): of several that have fallen due, the one
that fell due first. -/
def nearestPoll (l : List (Nat × Device)) : Option (Nat × Device) :=
  match l with
  | [] => none
  | e :: r => some (r.foldl pollFirst e)

/-- LC sends the POLL of a device (02 R21): an ACK owed is dropped, and the next poll falls due one period later. -/
def sendPoll (a : Nat) (s : State) : State :=
  updDevice a (fun r => { r with pollAt := s.now + ms r.period, pollDue := false })
    { s with lc := { s.lc with ackOwed := none, sent := some (.poll a), answerSlot := some a } }

/-- A frame that opens no answer slot. -/
def sendFrame (f : LoopFrame) (s : State) : State :=
  { s with lc := { s.lc with sent := some f, answerSlot := none } }

/-- The frame that the command in the slot has due, and the command once it is sent (02 R34, R35). -/
def slotFrame (now : PartTime) (c : LoopCommand) : Option (LoopFrame × LoopCommand) :=
  match c with
  | .read a automatic n true t => some (.readStatus a, .read a automatic n false t)
  | .test target mask true _ answered =>
    some (.testFire target mask, .test target mask false (some (now + ms Config.testWindow)) answered)
  | _ => none

/-- The owed ACK that may be sent: R17 addresses a frame to a device address from 1 to 62 (log 37). -/
def ackToSend (s : State) : Option (Nat × Bool) :=
  s.lc.ackOwed.filter fun k => decide (1 ≤ k.1 ∧ k.1 ≤ Config.loopDeviceLimit)

/-- LC chooses and sends the next controller frame (02 R21), while the loop is UP. -/
def chooseFrame (s : State) : State :=
  if s.lc.state ≠ .up then s
  else match nearestPoll (s.lc.roster.filter fun e => e.2.pollDue) with
    | some e => sendPoll e.1 s
    | none =>
      match ackToSend s with
      | some k => sendFrame (.ack k.1 k.2) { s with lc := { s.lc with ackOwed := none } }
      | none =>
        match s.lc.slot.bind (slotFrame s.now) with
        | some (f, c) => sendFrame f { s with lc := { s.lc with slot := some c } }
        | none =>
          match nearestPoll s.lc.roster with
          | some e => sendPoll e.1 s
          | none => s

/-- The poll of a device falls due (02 R21). -/
def pollFallsDue (a : Nat) (s : State) : State :=
  if s.lc.state = .up then
    updDevice a (fun r => if due (some r.pollAt) s.now then { r with pollDue := true } else r) s
  else s

/-! ## Answers in the slot of a POLL (02 R23, R25) -/

/-- The answer slot of a device has been used or has passed. -/
def closeSlot (a : Nat) (s : State) : State :=
  { s with lc := { s.lc with answerSlot := s.lc.answerSlot.filter fun b => b ≠ a } }

/-- An empty answer slot (02 R23). -/
def takeMiss (a : Nat) (s : State) : State :=
  let s1 := updDevice a (fun r => { r with misses := satInc r.misses Config.missLimit }) s
  if (Table.get s1.lc.roster a).any fun r => decide (Config.missLimit ≤ r.misses) then answerState a .missing s1 else s1

/-- A spoiled device frame (02 R25): a poll answer counts as an empty slot. -/
def takeSpoiled (slot : Option Nat) (s : State) : State :=
  match s.lc.state with
  | .idle => s
  | _ =>
    match slot with
    | some a => takeMiss a (closeSlot a (countLoopError s))
    | none => countLoopError s

/-- A poll answer that brings a device its state (02 R23), after the good frame has been counted. -/
def pollAnswered (a : Nat) (new : DeviceState) (f : Device → Device) (s : State) : State :=
  answerState a new (updDevice a (fun r => f { r with misses := 0 }) (goodFrame (closeSlot a s)))

/-- A detector's poll answer (02 R23, R33). An answer of another device's length is spoiled (12 R186; log 20). DESIGN
CHOICE (log 41): a service request joins the pending set before a read is issued, also when the answer ends a retry. -/
def takeDetectorAnswer (a : Nat) (f : PollFlags) (s : State) : State :=
  match s.lc.state, Table.get s.lc.roster a with
  | .idle, _ => s
  | _, none => s
  | _, some r =>
    match r.kind with
    | .flow => takeSpoiled (some a) s
    | .detector _ =>
      let s1 := pollAnswered a (stateOfFlags f) (fun r => { r with flags := some f }) s
      autoIssue (if f.service then { s1 with lc := { s1.lc with autoReads := insertNat a s1.lc.autoReads } } else s1)

/-- A flow sensor's poll answer (02 R23): the reading goes to TC in RUN. -/
def takeFlowAnswer (a raw : Nat) (s : State) : State :=
  match s.lc.state, Table.get s.lc.roster a with
  | .idle, _ => s
  | _, none => s
  | _, some r =>
    match r.kind with
    | .detector _ => takeSpoiled (some a) s
    | .flow =>
      let s1 := autoIssue (pollAnswered a .normal id s)
      if s1.lp.mode = .run then takeReading r.duct raw s1 else s1

/-! ## Reports (02 R26, R27; 10 R168) -/

/-- The walk record of a duct is ACTIVE (10 R167). -/
def inWalk (s : State) (d : Nat) : Bool := (Table.get s.lc.walks d).any fun w => w.active

/-- The walk test takes a report (10 R168). -/
def takeWalkSpark (d a : Nat) (role : Role) (kind : ReportKind) (t0 : PartTime) (s : State) : State :=
  postNotice .state (.walkSpark d a role kind t0) (updWalk d (fun w => { w with
    sparks := satInc w.sparks Config.counterLimit, seen := insertNat a w.seen }) s)

/-- An accepted report (02 R27): an UPSTREAM one goes first to TC, then to IT with TC's findings. -/
def acceptReport (d a : Nat) (role : Role) (kind : ReportKind) (t0 : PartTime) (s : State) : State :=
  match role with
  | .downstream => takeSpark { duct := d, detector := a, role := role, kind := kind, t0 := t0, findings := none } s
  | .upstream =>
    let r := takeTransit d a t0 s
    takeSpark { duct := d, detector := a, role := role, kind := kind, t0 := t0, findings := r.2 } r.1

/-- LC disposes of a new report of a detector (02 R27), in the order of the table. -/
def disposeReport (a : Nat) (r : Device) (role : Role) (kind : ReportKind) (t0 : PartTime) (s : State) : State :=
  if kind = .test then countTest a s
  else if s.lp.mode ≠ .run ∨ r.state = .isolated then
    updDevice a (fun r => { r with withheld := satInc r.withheld Config.counterLimit }) s
  else if inWalk s r.duct then takeWalkSpark r.duct a role kind t0 s
  else acceptReport r.duct a role kind t0 s

/-- A SPARK report of a kind of R18 is compared with its sender's record (02 R26). -/
def compareReport (a : Nat) (toggle : Bool) (kind : ReportKind) (t0 : PartTime) (s : State) : State :=
  match Table.get s.lc.roster a with
  | none => if kind = .test then countTest a s else countForeign s
  | some r =>
    match r.kind with
    | .flow => countForeign s
    | .detector role =>
      if r.toggle = some toggle then s
      else disposeReport a r role kind t0 (updDevice a (fun r => { r with toggle := some toggle }) s)

/-- A SPARK report with a good check (02 R26): it is acknowledged and compared. A report of kind 3 is spoiled
(12 R186). -/
def takeReport (a : Nat) (toggle : Bool) (kind : BitVec 2) (age : Nat) (s : State) : State :=
  match s.lc.state, reportKindOf kind with
  | .idle, _ => s
  | _, none => takeSpoiled none s
  | _, some k =>
    let s1 := goodFrame s
    autoIssue (compareReport a toggle k (s.now - ms age) { s1 with lc := { s1.lc with ackOwed := some (a, toggle) } })

/-- A STATUS answer (02 R28, R34); with soiling above 100 it is spoiled (12 R186). DESIGN CHOICE (log 41): one that ends a
retry is taken before an automatic read is issued, so it does not end that read. -/
def takeStatusAnswer (a : Nat) (fault : BitVec 8) (soiling : Nat) (s : State) : State :=
  match s.lc.state with
  | .idle => s
  | _ =>
    if 100 < soiling then takeSpoiled none s
    else autoIssue (takeStatus a { fault := fault, soiling := soiling } (goodFrame s))

/-! ## The walk test's end (10 R169) -/

/-- The detector records of a duct in the roster whose address a list does not hold (10 R169). -/
def unseenOf (s : State) (d : Nat) (seen : List Nat) : List Nat :=
  (s.lc.roster.filter fun e => e.2.duct = d && e.2.kind != .flow && !seen.contains e.1).map fun e => e.1

/-- A walk ends (10 R169). -/
def endWalk (d : Nat) (byExpiry : Bool) (s : State) : State :=
  match Table.get s.lc.walks d with
  | none => s
  | some w =>
    postNotice .state (.walkEnded d byExpiry w.startedAt w.sparks w.seen (unseenOf s d w.seen))
      (updWalk d (fun w => { w with active := false, expiry := none }) s)

/-- The walk expiry of a duct runs out (10 R169). -/
def walkRunsOut (d : Nat) (s : State) : State :=
  match Table.get s.lc.walks d with
  | none => s
  | some w => if w.active && due w.expiry s.now then endWalk d true s else s

/-! ## The commands -/

/-- POLL_DUE (02 R21). -/
def execPollDue (addr : LoopAddr) (s : State) : Host.Outcome State Fault Refusal := taken (pollFallsDue addr.toNat s)

/-- LOOP_FRAME_SLOT (02 R17, R21). -/
def execLoopFrameSlot (s : State) : Host.Outcome State Fault Refusal := taken (chooseFrame s)

/-- DETECTOR_POLL_ANSWER (02 R23). -/
def execDetectorPollAnswer (addr : LoopAddr) (soiled fault service : Bool) (s : State) :
    Host.Outcome State Fault Refusal :=
  taken (takeDetectorAnswer addr.toNat { soiled := soiled, fault := fault, service := service } s)

/-- FLOW_SENSOR_ANSWER (02 R23). -/
def execFlowSensorAnswer (addr : LoopAddr) (raw : BitVec 16) (s : State) : Host.Outcome State Fault Refusal :=
  taken (takeFlowAnswer addr.toNat raw.toNat s)

/-- POLL_NO_ANSWER (02 R23). -/
def execPollNoAnswer (addr : LoopAddr) (s : State) : Host.Outcome State Fault Refusal :=
  taken (takeMiss addr.toNat (closeSlot addr.toNat s))

/-- LOOP_FRAME_SPOILED (02 R25). -/
def execLoopFrameSpoiled (slot : Option LoopAddr) (s : State) : Host.Outcome State Fault Refusal :=
  taken (takeSpoiled (slot.map fun a => a.toNat) s)

/-- SPARK_REPORT (02 R26, R27). -/
def execSparkReport (addr : LoopAddr) (toggle : Bool) (kind : BitVec 2) (age : BitVec 8) (s : State) :
    Host.Outcome State Fault Refusal :=
  taken (takeReport addr.toNat toggle kind age.toNat s)

/-- STATUS_ANSWER (02 R28, R34). -/
def execStatusAnswer (addr : LoopAddr) (fault : BitVec 8) (soiling : BitVec 7) (s : State) :
    Host.Outcome State Fault Refusal :=
  taken (takeStatusAnswer addr.toNat fault soiling.toNat s)

/-- SILENCE_EXPIRY (02 R29). -/
def execSilenceExpiry (s : State) : Host.Outcome State Fault Refusal := taken (silenceRunsOut s)

/-- LOOP_OVERCURRENT (02 R29, R30). -/
def execLoopOvercurrent (s : State) : Host.Outcome State Fault Refusal := taken (overcurrent s)

/-- RETRY_EXPIRY (02 R30). -/
def execRetryExpiry (s : State) : Host.Outcome State Fault Refusal := taken (retryRunsOut s)

/-- READ_STATUS_ATTEMPT_EXPIRY (02 R34). -/
def execReadStatusAttemptExpiry (s : State) : Host.Outcome State Fault Refusal := taken (attemptRunsOut s)

/-- DETECTOR_TEST_WINDOW_EXPIRY (02 R35). -/
def execDetectorTestWindowExpiry (s : State) : Host.Outcome State Fault Refusal := taken (testRunsOut s)

/-- WALK_EXPIRY (10 R169). -/
def execWalkExpiry (duct : Nat) (s : State) : Host.Outcome State Fault Refusal := taken (walkRunsOut duct s)

end Sys2Proof.Machine
end

