-- ==== Sys2Proof/Machine/Points.lean ====
section
/-! DEFINITION. PI, the Point Interface, and CM, the Circuit Monitor (Chapter 9): chain passes, debounce, the readers
of an input point, and the monitors' samples. -/

namespace Sys2Proof.Machine

/-! ## Readers of an input point (09 R153) -/

/-- VG's valves that read a point take its change. -/
def handValves (p : Nat) (made : Bool) (s : State) : State :=
  s.model.valves.foldl (fun t e => if e.2.pressureIn = p then pressureChange e.1 made t else t) s

/-- VG's gates that read a point take its change, and IT takes what they hand it. -/
def handGates (p : Nat) (made : Bool) (s : State) : State :=
  s.model.gates.foldl
    (fun t e => if e.2.positionIn = p then takeGateReport e.1 (positionChange e.1 made t) else t) s

/-- GS's groups take the change of a point; a group that neither watches nor awaits it keeps its record. -/
def handGroups (p : Nat) (made : Bool) (s : State) : State :=
  s.model.groups.foldl (fun t e => groupInputChange e.1 p made t) s

/-- CC's doors that read a point take its change, in door order; `n` is the number of the first switch listed. -/
def handSwitches (w p : Nat) (made : Bool) (switches : List Nat) (n : Nat) (s : State) : State :=
  match switches with
  | [] => s
  | q :: r => handSwitches w p made r (n + 1) (if q = p then doorChange w n made s else s)

/-- CC's doors that read a point take its change, wall by wall. -/
def handDoors (p : Nat) (made : Bool) (s : State) : State :=
  s.model.walls.foldl (fun t e => handSwitches e.1 p made e.2.doors 1 t) s

/-- CC's dampers that read a point take its change. -/
def handDampers (p : Nat) (made : Bool) (s : State) : State :=
  s.model.crossings.foldl (fun t e => if e.2.closedIn = p then damperChange e.1 made t else t) s

/-- A change of a debounced level is handed to every function that reads the point under the committed model (09 R153),
in the order of the rule's table (log 27). -/
def handChange (p : Nat) (made : Bool) (s : State) : State :=
  handDampers p made (handDoors p made (handGroups p made (handGates p made (handValves p made s))))

/-! ## Debounce (09 R153) -/

/-- The debounce time of a point in ms. -/
def debounceOf (s : State) (p : Nat) : Nat := (Table.get s.pi.debounceTime p).getD 0

/-- A debounce timing is abandoned or has ended. -/
def cancelTiming (p : Nat) (s : State) : State :=
  { s with pi := { s.pi with timing := Table.drop s.pi.timing p } }

/-- A debounce timing starts now. -/
def startTiming (p : Nat) (s : State) : State :=
  { s with pi := { s.pi with timing := Table.put s.pi.timing p s.now } }

/-- A point takes its raw level as its debounced level (09 R153): a change between made and not made is handed on, a
passage from unknown to made as a making, and from unknown to not made as nothing. -/
def takeLevel (p : Nat) (made : Bool) (s : State) : State :=
  let old := Table.get s.pi.debounced p
  let s1 := cancelTiming p { s with pi := { s.pi with debounced := Table.put s.pi.debounced p made } }
  if old = some made ∨ (old = none ∧ made = false) then s1 else handChange p made s1

/-- One point of an intact pass (09 R153). `raw` is the raw level of the pass before this one: a point that is unknown
times the first raw level that holds, so a raw level that has moved restarts its timing. -/
def passPoint (levels raw : Levels) (s : State) (p : Nat) : State :=
  let r := levelOf levels p
  let old := Table.get s.pi.debounced p
  if old = some r then cancelTiming p s
  else if debounceOf s p = 0 then takeLevel p r s
  else if (Table.get s.pi.timing p).isNone || (old == none && levelOf raw p != r) then startTiming p s
  else s

/-- PI takes the levels of an intact pass (09 R153): every raw level, then each point. DESIGN CHOICE (log 27): points that
change in one pass are taken, and handed on, in increasing order. -/
def takeLevels (levels : Levels) (s : State) : State :=
  (List.range Config.points).foldl (passPoint levels s.pi.raw) { s with pi := { s.pi with raw := levels } }

/-- The debounce timing of a point has run for the point's debounce time: the raw level is taken (09 R153). While the
in-chain is FAULTED none is in progress (09 R154). -/
def debounceRunsOut (p : Nat) (s : State) : State :=
  if due ((Table.get s.pi.timing p).map fun t => t + ms (debounceOf s p)) s.now && s.pi.inChain.state == .good then
    takeLevel p (levelOf s.pi.raw p) s
  else s

/-! ## Chain integrity (09 R154) -/

/-- The record of a chain. -/
def chainOf (c : Chain) (s : State) : ChainRecord :=
  match c with
  | .out => s.pi.outChain
  | .inp => s.pi.inChain

/-- Replaces the record of a chain. -/
def setChain (c : Chain) (r : ChainRecord) (s : State) : State :=
  match c with
  | .out => { s with pi := { s.pi with outChain := r } }
  | .inp => { s with pi := { s.pi with inChain := r } }

/-- A pass of a chain fails (09 R154): a GOOD chain becomes FAULTED, and the 100 ms of intact passes start from this
pass (log 28). Every debounce timing is abandoned when the in-chain becomes FAULTED. -/
def chainFails (c : Chain) (s : State) : State :=
  let s1 := setChain c { state := .faulted, goodAt := some (s.now + ms Config.chainGoodTime) } s
  match (chainOf c s).state with
  | .faulted => s1
  | .good =>
    let s2 := match c with
      | .out => s1
      | .inp => { s1 with pi := { s1.pi with timing := [] } }
    postNotice .fault (.chainState c .faulted) s2

/-- Every pass of a FAULTED chain has been intact for 100 ms: it returns to GOOD (09 R154). -/
def chainRecovers (c : Chain) (s : State) : State :=
  if (chainOf c s).state = .faulted ∧ due (chainOf c s).goodAt s.now = true then
    postNotice .state (.chainState c .good) (setChain c { state := .good, goodAt := none } s)
  else s

/-! ## Circuit monitors (09 R155-R157) -/

/-- The entry that names a monitor: its table, its index and the output it supervises (01 R10). -/
def namedBy (m : MillModel) (mon : Nat) : Option (TableId × Nat × Nat) :=
  ((m.valves.findSome? fun e => if e.2.monitor = some mon then some (TableId.valve, e.1, e.2.output) else none).or
    (m.walls.findSome? fun e => if e.2.monitor = some mon then some (TableId.wall, e.1, e.2.holderOut) else none)).or
    (m.sirens.findSome? fun e => if e.2.monitor = some mon then some (TableId.siren, e.1, e.2.output) else none)

/-- How a sample reads against the band of the output's image level (09 R155). -/
def readSample (e : MonitorEntry) (on : Bool) (level : Nat) : Circuit :=
  let low := if on then e.onLow else e.offLow
  let high := if on then e.onHigh else e.offHigh
  if level < low then .opened else if high < level then .shorted else .normal

/-- The filter of a monitor takes a reading (09 R156): the record after it, its circuit state changed when the count
reaches F. -/
def filterSample (filter : Nat) (reading : Circuit) (r : Monitor) : Monitor :=
  if reading = r.state then { r with candidate := none, count := 0 }
  else
    let n := if r.candidate = some reading then r.count + 1 else 1
    if filter ≤ n then { r with state := reading, candidate := none, count := 0 }
    else { r with candidate := some reading, count := n }

/-- CM reports a circuit state to the block of the entry that names the monitor (09 R157). -/
def reportCircuit (table : TableId) (entry : Nat) (c : Circuit) (s : State) : State :=
  match table with
  | .valve => updValve entry (fun v => { v with circuit := c != .normal }) s
  | .wall => holderReport entry c s
  | .siren => sirenReport entry c s
  | _ => s

/-- A monitor takes a sample of its sense channel (09 R155-R157). -/
def takeSample (mon : Nat) (e : MonitorEntry) (level : Nat) (s : State) : State :=
  match Table.get s.cm mon, namedBy s.model mon with
  | some r, some (table, entry, output) =>
    if r.blanking.isSome then s
    else
      let new := filterSample e.filter (readSample e (levelOf s.pi.out output) level) r
      let s1 := updMonitor mon (fun _ => new) s
      if new.state = r.state then s1
      else
        reportCircuit table entry new.state
          (postNotice (if new.state = .normal then .state else .fault)
            (.circuitState mon table entry r.state new.state) s1)
  | _, _ => s

/-- A monitor's blanking expiry runs out (09 R155). -/
def blankingRunsOut (mon : Nat) (s : State) : State :=
  updMonitor mon (fun r => if due r.blanking s.now then { r with blanking := none } else r) s

/-! ## The commands -/

/-- OUT_CHAIN_PASS (09 R151, R154). -/
def execOutChainPass (intact : Bool) (s : State) : Host.Outcome State Fault Refusal :=
  taken (if intact then s else chainFails .out s)

/-- IN_CHAIN_PASS (09 R153, R154): no level is taken from a failed pass, nor while the chain is FAULTED. -/
def execInChainPass (intact : Bool) (levels : Levels) (s : State) : Host.Outcome State Fault Refusal :=
  taken (if intact then
    match s.pi.inChain.state with
    | .good => takeLevels levels s
    | .faulted => s
  else chainFails .inp s)

/-- CHAIN_GOOD_EXPIRY (09 R154). -/
def execChainGoodExpiry (chain : Chain) (s : State) : Host.Outcome State Fault Refusal := taken (chainRecovers chain s)

/-- DEBOUNCE_EXPIRY (09 R153). -/
def execDebounceExpiry (point : Nat) (s : State) : Host.Outcome State Fault Refusal := taken (debounceRunsOut point s)

/-- MONITOR_SAMPLE (09 R155-R157): the channel is sampled for the monitor whose committed entry names it. -/
def execMonitorSample (channel : Nat) (level : BitVec 10) (s : State) : Host.Outcome State Fault Refusal :=
  taken (match s.model.monitors.find? fun e => e.2.channel = channel with
    | some e => takeSample e.1 e.2 level.toNat s
    | none => s)

/-- BLANKING_EXPIRY (09 R155). -/
def execBlankingExpiry (monitor : Nat) (s : State) : Host.Outcome State Fault Refusal := taken (blankingRunsOut monitor s)

end Sys2Proof.Machine
end

