-- ==== Sys2Proof/Machine/Clock.lean ====
section
/-! DEFINITION. Part time (00_scope.md 3.2): what one millisecond does on an empty queue, and the events that have
fallen due, in one fixed order (logs 2 and 3). -/

namespace Sys2Proof.Machine

/-- A command, when a condition holds. -/
def event (c : Bool) (i : Instr) : List Instr := if c then [i] else []

/-- One command for each record of a table of which a condition holds. -/
def events {α : Type} (t : Table α) (c : α → Bool) (i : Nat → Instr) : List Instr :=
  (t.filter fun e => c e.2).map fun e => i e.1

/-- The loop address of a roster index. -/
def loopAddr (a : Nat) : LoopAddr := BitVec.ofNat 6 a

/-- The events of the spark rings and the held last sparks (05 R81). -/
def dueSparks (s : State) : List Instr :=
  events s.it.sparks (fun r => r.ring.any fun t => moreThanAgo t s.now Config.ringAge) .sparkRingEntryAged ++
    (s.it.incidents.flatMap fun i => (originsOf i).flatMap fun o => match o.id with
      | .duct d =>
        event (!o.held && o.lastSpark.any fun t => atLeastAgo t s.now Config.heldAge) (.lastSparkHeld d)
      | .compartment _ => [])

/-- The events of LP (11 R171, R180) and of the calendar clock (08 R144). -/
def dueLink (s : State) : List Instr :=
  event (due (some s.sc.nextAdvance) s.now) .clockAdvance ++
    event (due s.lp.hostLostExpiry s.now) .hostLostExpiry ++
    event (gapPassed s.lp.receiver s.now) .linkByteGapTimeout

/-- The events of the command slot (02 R34, R35). -/
def dueSlot (s : State) : List Instr :=
  match s.lc.slot with
  | some (.read _ _ _ _ t) => event (due (some t) s.now) .readStatusAttemptExpiry
  | some (.test _ _ _ w _) => event (due w s.now) .detectorTestWindowExpiry
  | none => []

/-- The polls that fall due (02 R21), and the line's next frame (02 R17: one frame a millisecond). -/
def duePolls (s : State) : List Instr :=
  match s.lc.state with
  | .up =>
    events s.lc.roster (fun r => !r.pollDue && due (some r.pollAt) s.now) (fun a => .pollDue (loopAddr a)) ++
      [.loopFrameSlot]
  | _ => []

/-- The events of LC (02 R23, R29, R30; 10 R169). An answer slot still open has stayed empty. -/
def dueLoop (s : State) : List Instr :=
  dueSlot s ++ event (due s.lc.silence s.now) .silenceExpiry ++ event (due s.lc.retry s.now) .retryExpiry ++
    (match s.lc.answerSlot with
     | some a => [.pollNoAnswer (loopAddr a)]
     | none => []) ++
    duePolls s

/-- The events of TC and VG (03 R39; 04 R60, R62, R63, R73). -/
def dueDucts (s : State) : List Instr :=
  events s.tc (fun v => due v.stale s.now) .staleExpiry ++
    events s.vg.valves (fun v => due v.openExpiry s.now) .openExpiry ++
    events s.vg.valves (fun v => due v.settleExpiry s.now) .settleExpiry ++
    events s.vg.valves (fun v => due v.closeExpiry s.now) .closeExpiry ++
    events s.vg.gates (fun g => due g.travel s.now) .travelExpiry

/-- The events of IT (05 R92, R93; 08 R142). -/
def dueIncidents (s : State) : List Instr :=
  (s.it.incidents.flatMap fun i => event (due i.unacked s.now) (.unackedExpiry i.id)) ++
    (s.it.incidents.flatMap fun i => event (due i.quiet s.now) (.quietExpiry i.id)) ++
    s.it.incidents.flatMap fun i => event (due i.resound s.now) (.silenceResoundExpiry i.id)

/-- The step expiry of a group that has run out: of a PAUSE, or of an AWAIT or FAN step (06 R105, R106). -/
def dueStep (s : State) (g : Nat) : List Instr :=
  match waitingStep s g with
  | some (_, _, .pause _, t) => event (due (some t) s.now) (.pauseExpiry g)
  | some (_, _, _, t) => event (due (some t) s.now) (.stepTimeout g)
  | none => []

/-- The events of a wall's doors, numbered from n (07 R119). -/
def dueDoors (s : State) (w n : Nat) (doors : List Door) : List Instr :=
  match doors with
  | [] => []
  | d :: r => event (due d.expiry s.now) (.doorCloseExpiry w n) ++ dueDoors s w (n + 1) r

/-- The events of GS, CC and SC (06 R105, R106; 07 R119, R120, R124; 08 R138, R147). -/
def duePlant (s : State) : List Instr :=
  (s.gs.flatMap fun e => dueStep s e.1) ++ events s.cc.walls (fun r => due r.warning s.now) .warningExpiry ++
    (s.cc.walls.flatMap fun e => dueDoors s e.1 1 e.2.doors) ++
    events s.cc.crossings (fun r => due r.expiry s.now) .damperExpiry ++
    events s.sc.sirens (fun r => due r.cadence s.now) .cadenceExpiry ++
    event (s.sc.test.any fun t => due (some t.2) s.now) .testExpiry

/-- The events of PI and CM, and the ends of walks (09 R153-R155; 10 R169). -/
def duePoints (s : State) : List Instr :=
  event (due s.pi.outChain.goodAt s.now) (.chainGoodExpiry .out) ++
    event (due s.pi.inChain.goodAt s.now) (.chainGoodExpiry .inp) ++
    ((s.pi.timing.filter fun e => due (some (e.2 + ms (debounceOf s e.1))) s.now).map fun e => .debounceExpiry e.1) ++
    events s.cm (fun r => due r.blanking s.now) .blankingExpiry ++
    events s.lc.walks (fun w => due w.expiry s.now) .walkExpiry

/-- The events that have fallen due, in the order in which the model takes them (DESIGN CHOICE, log 3). -/
def dueEvents (s : State) : List Instr :=
  dueSparks s ++ dueLink s ++ dueLoop s ++ dueDucts s ++ dueIncidents s ++ duePlant s ++ duePoints s

/-- One millisecond of part time on an empty queue (log 2). -/
def tick (s : State) : State :=
  let s1 := { s with now := s.now + 1#32 }
  { s1 with pending := dueEvents s1 }

end Sys2Proof.Machine
end

