-- ==== Sys2Proof/Machine/Expiries.lean ====
section
/-! DEFINITION. The run-outs of the timers of TC, VG, IT, GS, CC and SC. Each acts only while its expiry is running and
its time has come (log 1); one that names no record has no effect (log 36). -/

namespace Sys2Proof.Machine

/-! ## VG (Chapter 4) -/

/-- The open expiry of a valve runs out (04 R59, R60). -/
def openRunsOut (d : Nat) (s : State) : State :=
  match Table.get s.vg.valves d with
  | none => s
  | some v => if due v.openExpiry s.now && v.state == .idle then openHead d s else s

/-- The head window as VALVE-FAIL names it (04 R62). -/
def noticeValveFail (d : Nat) (v : Valve) (s : State) : State :=
  match v.queue with
  | [] => s
  | h :: _ => postNotice .fault (.valveFail d h) s

/-- The settle expiry of a valve runs out (04 R62): a valve that was not failed becomes so, and VG hands VALVE-FAIL
to IT. -/
def settleRunsOut (d : Nat) (s : State) : State :=
  match Table.get s.vg.valves d with
  | none => s
  | some v =>
    if due v.settleExpiry s.now then
      let s1 := updValve d (fun v => { v with
        settleExpiry := none, settleRan := true, flowed := false, failed := true }) s
      if v.failed then s1 else noticeValveFail d v (takeValveFail d s1)
    else s

/-- The close expiry of a valve runs out (04 R63). -/
def closeRunsOut (d : Nat) (s : State) : State :=
  match Table.get s.vg.valves d with
  | none => s
  | some v => if due v.closeExpiry s.now then closeHead d s else s

/-- The travel expiry of a gate runs out (04 R73), and IT takes what the gate hands it. -/
def gateRunsOut (d : Nat) (s : State) : State :=
  match Table.get s.vg.gates d with
  | none => s
  | some g => if due g.travel s.now then takeGateReport d (travelRunsOut d s) else s

/-! ## CC (Chapter 7) -/

/-- The warning expiry of a wall runs out (07 R124). -/
def warningRunsOut (w : Nat) (s : State) : State :=
  match Table.get s.cc.walls w with
  | none => s
  | some r => if due r.warning s.now && r.state == .warning then enterReleased w s else s

/-! ## SC (Chapter 8) -/

/-- The phase after a cadence expiry, and its expiry (08 R138). -/
def nextPhase (t : PatternEntry) (now : PartTime) (r : Siren) : Siren :=
  match r.phase with
  | some .on => { r with phase := some .off, cadence := some (now + ms t.offTime) }
  | some .off => { r with phase := some .on, cadence := some (now + ms t.onTime) }
  | _ => { r with cadence := none }

/-- The cadence expiry of a siren runs out (08 R138). -/
def cadenceRunsOut (n : Nat) (s : State) : State :=
  match Table.get s.sc.sirens n with
  | none => s
  | some r =>
    match r.sounding with
    | none => s
    | some p =>
      if due r.cadence s.now then
        driveSiren n (updSiren n (nextPhase (patternTimes s.model p) s.now) s)
      else s

/-- The calendar clock advances by one second (08 R144); the scheduled test is judged at a minute change (R146). -/
def advanceClock (s : State) : State :=
  if due (some s.sc.nextAdvance) s.now then
    let t := nextSecond s.sc.clock.time
    let s1 := { s with sc := { s.sc with
      clock := { s.sc.clock with time := t }, nextAdvance := s.sc.nextAdvance + ms Config.clockInterval } }
    if t.second = 0 then judgeSchedule s1 else s1
  else s

/-- The test expiry runs out (08 R147). -/
def testExpires (s : State) : State :=
  match s.sc.test with
  | none => s
  | some (_, t) => if due (some t) s.now then completeTest s else s

/-! ## The commands -/

/-- STALE_EXPIRY (03 R39). -/
def execStaleExpiry (duct : Nat) (s : State) : Host.Outcome State Fault Refusal := taken (staleRunsOut duct s)

/-- OPEN_EXPIRY (04 R60). -/
def execOpenExpiry (duct : Nat) (s : State) : Host.Outcome State Fault Refusal := taken (openRunsOut duct s)

/-- SETTLE_EXPIRY (04 R62). -/
def execSettleExpiry (duct : Nat) (s : State) : Host.Outcome State Fault Refusal := taken (settleRunsOut duct s)

/-- CLOSE_EXPIRY (04 R63). -/
def execCloseExpiry (duct : Nat) (s : State) : Host.Outcome State Fault Refusal := taken (closeRunsOut duct s)

/-- TRAVEL_EXPIRY (04 R73). -/
def execTravelExpiry (duct : Nat) (s : State) : Host.Outcome State Fault Refusal := taken (gateRunsOut duct s)

/-- UNACKED_EXPIRY (05 R92). -/
def execUnackedExpiry (id : Nat) (s : State) : Host.Outcome State Fault Refusal := taken (unackedRunsOut id s)

/-- QUIET_EXPIRY (05 R93). -/
def execQuietExpiry (id : Nat) (s : State) : Host.Outcome State Fault Refusal := taken (quietRunsOut id s)

/-- SILENCE_RESOUND_EXPIRY (08 R142). -/
def execSilenceResoundExpiry (id : Nat) (s : State) : Host.Outcome State Fault Refusal := taken (resoundRunsOut id s)

/-- SPARK_RING_ENTRY_AGED (05 R81). -/
def execSparkRingEntryAged (duct : Nat) (s : State) : Host.Outcome State Fault Refusal := taken (ageRing duct s)

/-- LAST_SPARK_HELD (05 R81). -/
def execLastSparkHeld (duct : Nat) (s : State) : Host.Outcome State Fault Refusal := taken (holdLastSpark duct s)

/-- PAUSE_EXPIRY (06 R105). -/
def execPauseExpiry (group : Nat) (s : State) : Host.Outcome State Fault Refusal := taken (pauseRunsOut group s)

/-- STEP_TIMEOUT (06 R106). -/
def execStepTimeout (group : Nat) (s : State) : Host.Outcome State Fault Refusal := taken (stepRunsOut group s)

/-- WARNING_EXPIRY (07 R124). -/
def execWarningExpiry (wall : Nat) (s : State) : Host.Outcome State Fault Refusal := taken (warningRunsOut wall s)

/-- DOOR_CLOSE_EXPIRY (07 R119). -/
def execDoorCloseExpiry (wall door : Nat) (s : State) : Host.Outcome State Fault Refusal := taken (doorRunsOut wall door s)

/-- DAMPER_EXPIRY (07 R120). -/
def execDamperExpiry (crossing : Nat) (s : State) : Host.Outcome State Fault Refusal := taken (damperRunsOut crossing s)

/-- CADENCE_EXPIRY (08 R138). -/
def execCadenceExpiry (siren : Nat) (s : State) : Host.Outcome State Fault Refusal := taken (cadenceRunsOut siren s)

/-- CLOCK_ADVANCE (08 R144). -/
def execClockAdvance (s : State) : Host.Outcome State Fault Refusal := taken (advanceClock s)

/-- TEST_EXPIRY (08 R147). -/
def execTestExpiry (s : State) : Host.Outcome State Fault Refusal := taken (testExpires s)

end Sys2Proof.Machine
end

