-- ==== Sys2Proof/Machine/MillModel.lean ====
section
/-! DEFINITION. MM, the Mill Model (Chapter 1): the checks of a LOAD against its own entry, and what LOAD and
CLEAR-CONFIG do to the tables. -/

namespace Sys2Proof.Machine

/-! ## The ranges of the fields (01 R2-R10), each with the position of its field -/

/-- A number lies in a range, both ends included. -/
def within (low high n : Nat) : Bool := decide (low ≤ n ∧ n ≤ high)

/-- A field point is one of the 128. -/
def isPoint (n : Nat) : Bool := within 0 127 n

/-- An optional index is absent or at most a limit. -/
def optionalUpTo (high : Nat) (o : Option Nat) : Bool := o.all fun n => within 0 high n

/-- The conditions of an entry, in field order, each with the error it names when it fails. -/
abbrev Conditions := List (Bool × FieldError)

/-- A condition on the field at a position. -/
def onField (n : Nat) (ok : Bool) : Bool × FieldError := (ok, atField n)

/-- The ranges of a step's fields (01 R6). DESIGN CHOICE (log 38): a point beyond 127, which the step table leaves to the
own-point restriction, is refused at LOAD. -/
def stepInRange (st : ListStep) : Bool :=
  match st with
  | .drive p _ => isPoint p
  | .await p _ t => isPoint p && within 0 600 t
  | .pause d => within 0 600 d
  | .fan _ => true
  | .infeed _ => true

/-- The conditions of the steps of a list, numbered from k. -/
def stepConditions (field k : Nat) (steps : List ListStep) : Conditions :=
  match steps with
  | [] => []
  | st :: r => (stepInRange st, { field := field, step := k }) :: stepConditions field (k + 1) r

/-- The conditions of a step list: 1 to 12 steps, each in range (01 R6). -/
def listConditions (field : Nat) (steps : List ListStep) : Conditions :=
  onField field (within 1 12 steps.length) :: stepConditions field 1 steps

/-- No member of a list stands in it twice. -/
def noRepeat (l : List Nat) : Bool :=
  match l with
  | [] => true
  | x :: r => !r.contains x && noRepeat r

/-- What a LOAD checks of an entry, in the order of its field table (01 R2; the place of a disagreement of two fields
is log 15). R10 gives the monitor entry no field table: that each band is one field, so that F has position 3 and the
blanking time 4, is the model's (DESIGN CHOICE, log 39). -/
def entryConditions (e : Entry) : Conditions :=
  match e with
  | .duct e =>
    [onField 0 (within 0 5 e.group), onField 1 (within 0 7 e.compartment), onField 2 (isPoint e.infeedOut),
      onField 4 (within 1 62 e.flowAddr), onField 5 (within 300 3000 e.vMin),
      onField 6 (within (e.vMin + 1) 6000 e.vMax), onField 7 (within 0 50 e.tolerance), onField 8 (within 0 7 e.shift),
      onField 9 (within 200 5000 e.staleTime), onField 10 (within 500 30000 e.wMax),
      onField 11 (within 1000 600000 e.quiet), onField 12 (within 2 16 e.n1 && within 100 60000 e.s1),
      onField 13 (within e.n1 16 e.n2 && within 100 60000 e.s2), onField 14 (within 0 600 e.escalation),
      onField 15 (decide (e.crossings.length ≤ 3) && (e.crossings.all fun w => within 0 11 w) && noRepeat e.crossings)]
  | .detector e =>
    [onField 0 (within 1 62 e.addr), onField 1 (within 0 15 e.duct),
      onField 3 (e.dist.isSome == (e.role == .upstream) && e.dist.all fun d => within 50 6000 d),
      onField 4 (e.gateDist.all fun d => within 50 12000 d)]
  | .flow e => [onField 0 (within 1 62 e.addr), onField 1 (within 0 15 e.duct), onField 2 (within 50 500 e.period)]
  | .valve e =>
    [onField 0 (isPoint e.output), onField 1 (isPoint e.pressureIn), onField 2 (within 0 500 e.lead),
      onField 3 (within 0 5000 e.afterRun), onField 4 (within 50 2000 e.settle), onField 5 (within 0 1000 e.minOff),
      onField 6 (optionalUpTo 47 e.monitor)]
  | .gate e => [onField 0 (isPoint e.output), onField 1 (isPoint e.positionIn), onField 2 (within 100 5000 e.travel)]
  | .group e =>
    [onField 0 (isPoint e.fanOut), onField 1 (isPoint e.fanIn), onField 2 (within 1 120 e.fanTimeout),
      onField 3 (decide (e.aux.length ≤ 8) && e.aux.all fun a => isPoint a.output && optionalUpTo 127 a.feedback)] ++
      listConditions 4 e.shutdown ++ listConditions 5 e.restart
  | .compartment e =>
    [onField 0 (within 0 15 e.spanStart), onField 1 (within 0 15 e.spanEnd), onField 2 (within 0 15 e.margin)]
  | .wall e =>
    [onField 0 (within 0 7 e.compA), onField 1 (optionalUpTo 7 e.compB && e.compB != some e.compA),
      onField 2 (within 0 20 e.warning), onField 3 (isPoint e.holderOut), onField 4 (isPoint e.beaconOut),
      onField 5 (optionalUpTo 47 e.monitor), onField 6 (within 1 60 e.doorTime), onField 7 (within 1 60 e.damperTime),
      onField 8 (decide (e.doors.length ≤ 4) && e.doors.all isPoint)]
  | .crossing e =>
    [onField 0 (within 0 15 e.duct), onField 1 (within 0 11 e.wall), onField 2 (isPoint e.holdOut),
      onField 3 (isPoint e.closedIn)]
  | .siren e => [onField 0 (within 0 15 e.sector), onField 1 (isPoint e.output), onField 2 (optionalUpTo 47 e.monitor)]
  | .pattern e =>
    [onField 0 (within 0 10000 e.onTime && (e.offTime == 0 || e.onTime != 0)), onField 1 (within 0 10000 e.offTime)]
  | .plan e => [onField 1 (within 0 23 e.hour), onField 2 (within 0 59 e.minute), onField 3 (within 1 120 e.duration)]
  | .monitor e =>
    [onField 0 (within 0 47 e.channel), onField 1 (decide (e.offLow ≤ e.offHigh) && within 0 1023 e.offHigh),
      onField 2 (decide (e.onLow ≤ e.onHigh) && within 0 1023 e.onHigh), onField 3 (within 1 15 e.filter),
      onField 4 (within 0 500 e.blanking)]
  | .debounce t => [onField 0 (within 0 255 t)]

/-- The first field of an entry that fails, if any (01 R2). -/
def entryError (e : Entry) : Option FieldError := ((entryConditions e).find? fun c => !c.1).map fun c => c.2

/-! ## LOAD (01 R1, R2) -/

/-- An entry is made present with its values. -/
def putEntry (m : MillModel) (n : Nat) (e : Entry) : MillModel :=
  match e with
  | .duct e => { m with ducts := Table.put m.ducts n e }
  | .detector e => { m with detectors := Table.put m.detectors n e }
  | .flow e => { m with flows := Table.put m.flows n e }
  | .valve e => { m with valves := Table.put m.valves n e }
  | .gate e => { m with gates := Table.put m.gates n e }
  | .group e => { m with groups := Table.put m.groups n e }
  | .compartment e => { m with compartments := Table.put m.compartments n e }
  | .wall e => { m with walls := Table.put m.walls n e }
  | .crossing e => { m with crossings := Table.put m.crossings n e }
  | .siren e => { m with sirens := Table.put m.sirens n e }
  | .pattern e => { m with patterns := Table.put m.patterns n e }
  | .plan e => { m with plan := some e }
  | .monitor e => { m with monitors := Table.put m.monitors n e }
  | .debounce t => { m with debounce := Table.put m.debounce n t }

/-- An entry is made absent, whatever it held. -/
def dropEntry (m : MillModel) (t : TableId) (n : Nat) : MillModel :=
  match t with
  | .duct => { m with ducts := Table.drop m.ducts n }
  | .detector => { m with detectors := Table.drop m.detectors n }
  | .flow => { m with flows := Table.drop m.flows n }
  | .valve => { m with valves := Table.drop m.valves n }
  | .gate => { m with gates := Table.drop m.gates n }
  | .group => { m with groups := Table.drop m.groups n }
  | .compartment => { m with compartments := Table.drop m.compartments n }
  | .wall => { m with walls := Table.drop m.walls n }
  | .crossing => { m with crossings := Table.drop m.crossings n }
  | .siren => { m with sirens := Table.drop m.sirens n }
  | .pattern => { m with patterns := Table.drop m.patterns n }
  | .plan => { m with plan := none }
  | .monitor => { m with monitors := Table.drop m.monitors n }
  | .debounce => { m with debounce := Table.drop m.debounce n }

/-- Making an entry present would exceed the 62 loop devices (01 R2): it is a new entry of the detector or flow sensor
table, and those tables hold 62 already. -/
def loopFull (m : MillModel) (n : Nat) (e : Entry) : Bool :=
  let full := decide (Config.loopDeviceLimit ≤ m.detectors.length + m.flows.length)
  match e with
  | .detector _ => full && (Table.get m.detectors n).isNone
  | .flow _ => full && (Table.get m.flows n).isNone
  | _ => false

/-- MM judges a LOAD (01 R2), in the order of its table. -/
def judgeLoadRequest (r : LoadRequest) (s : State) : Judged :=
  if tableSize r.table ≤ r.index then noSuch s
  else match r.entry with
    | none => accept .nothing { s with tables := dropEntry s.tables r.table r.index }
    | some e =>
      match entryError e with
      | some err => refuse .badValue .field (loadArgs (tableNumber r.table) r.index err) s
      | none =>
        if loopFull s.tables r.index e then refuse .tableFull .none [] s
        else accept .nothing { s with tables := putEntry s.tables r.index e }

/-- LOAD (01 R1, R2). -/
def judgeLoad (body : List Byte) (s : State) : Judged :=
  match bodyLoad body with
  | .ok r => judgeLoadRequest r s
  | .error args => refuse .badValue .field args s

/-- CLEAR-CONFIG (01 R1): every entry is made absent. -/
def judgeClearConfig (body : List Byte) (s : State) : Judged :=
  withBody (bodyEmpty body) (fun _ s => accept .nothing { s with tables := MillModel.empty }) s

/-! ## The commands -/

/-- LOAD (01 R1, R2). -/
def execLoad (tag : Byte) (body : List Byte) (s : State) : Host.Outcome State Fault Refusal :=
  taken (request .load tag (judgeLoad body) s)

/-- CLEAR_CONFIG (01 R1). -/
def execClearConfig (tag : Byte) (body : List Byte) (s : State) : Host.Outcome State Fault Refusal :=
  taken (request .clearConfig tag (judgeClearConfig body) s)

end Sys2Proof.Machine
end

