-- ==== Sys2Proof/Machine/Commit.lean ====
section
/-! DEFINITION. COMMIT (Chapter 1): the seven checks in their order, and the run state that a successful COMMIT
builds (01 R11-R16). -/

namespace Sys2Proof.Machine

/-! ## The seven checks (01 R11-R14) -/

/-- A place in the tables: the field, and the step for a step, or 255 for none (12 R182; log 14). -/
structure Place where
  table : TableId
  entry : Nat
  field : Nat
  step : Nat
deriving DecidableEq, Repr

/-- A field of an entry. -/
def atEntry (t : TableId) (n field : Nat) : Place := { table := t, entry := n, field := field, step := Config.absentByte }

/-- An entry, with no one field. -/
def wholeEntry (t : TableId) (n : Nat) : Place := atEntry t n Config.absentByte

/-- The place that fails when a condition does not hold. -/
def needs (ok : Bool) (p : Place) : Option Place := if ok then none else some p

/-- The first failure of a list of conditions. -/
def firstFailure (l : List (Option Place)) : Option Place := l.findSome? id

/-- The first failing entry of a table, each entry giving its conditions in field order. -/
def scan {α : Type} (t : Table α) (f : Nat → α → List (Option Place)) : Option Place :=
  t.findSome? fun e => firstFailure (f e.1 e.2)

/-- An entry is present. -/
def present {α : Type} (t : Table α) (n : Nat) : Bool := (Table.get t n).isSome

/-- An optional reference names a present entry, or is not given (01 R11). -/
def presentIfGiven {α : Type} (t : Table α) (o : Option Nat) : Bool := o.all fun n => present t n

/-- A present crossing entry names a duct and a wall. -/
def crossingNames (m : MillModel) (d w : Nat) : Bool := m.crossings.any fun c => c.2.duct = d && c.2.wall = w

/-- The REFERENCE check (01 R11). -/
def checkReference (m : MillModel) : Option Place :=
  firstFailure
    [ needs (!m.ducts.isEmpty) (wholeEntry .duct 0),
      scan m.ducts fun n e =>
        [needs (present m.groups e.group) (atEntry .duct n 0),
          needs (present m.compartments e.compartment) (atEntry .duct n 1),
          needs (present m.valves n) (wholeEntry .duct n),
          needs (!e.gatePresent || present m.gates n) (atEntry .duct n 3),
          needs (e.crossings.all fun w => present m.walls w) (atEntry .duct n 15),
          needs (e.crossings.all fun w => crossingNames m n w) (atEntry .duct n 15)],
      scan m.detectors fun n e => [needs (present m.ducts e.duct) (atEntry .detector n 1)],
      scan m.flows fun n e => [needs (present m.ducts e.duct) (atEntry .flow n 1)],
      scan m.valves fun n e =>
        [needs (present m.ducts n) (wholeEntry .valve n),
          needs (presentIfGiven m.monitors e.monitor) (atEntry .valve n 6)],
      scan m.gates fun n _ => [needs ((Table.get m.ducts n).any fun d => d.gatePresent) (wholeEntry .gate n)],
      scan m.walls fun n e =>
        [needs (present m.compartments e.compA) (atEntry .wall n 0),
          needs (presentIfGiven m.compartments e.compB) (atEntry .wall n 1),
          needs (presentIfGiven m.monitors e.monitor) (atEntry .wall n 5)],
      scan m.crossings fun n e =>
        [needs (present m.ducts e.duct) (atEntry .crossing n 0),
          needs (present m.walls e.wall) (atEntry .crossing n 1),
          needs ((Table.get m.ducts e.duct).any fun d => d.crossings.contains e.wall) (atEntry .crossing n 1),
          needs (m.crossings.all fun c => !(decide (c.1 < n) && c.2.duct = e.duct && c.2.wall = e.wall))
            (wholeEntry .crossing n)],
      scan m.sirens fun n e => [needs (presentIfGiven m.monitors e.monitor) (atEntry .siren n 2)],
      needs (present m.patterns 0) (wholeEntry .pattern 0),
      needs (present m.patterns 1) (wholeEntry .pattern 1),
      needs (present m.patterns 2) (wholeEntry .pattern 2) ]

/-- A field that claims a number: a loop address, an output point or a monitor. -/
structure Claim where
  place : Place
  number : Nat
deriving DecidableEq, Repr

/-- The claims of a list, in scan order, whose number an earlier one has already claimed. -/
def repeats (seen : List Nat) (l : List Claim) : List Claim :=
  match l with
  | [] => []
  | c :: r => if seen.contains c.number then c :: repeats seen r else repeats (c.number :: seen) r

/-- A claim of a field of an entry. -/
def claim (t : TableId) (n field number : Nat) : Claim := { place := atEntry t n field, number := number }

/-- The loop addresses held, in scan order (01 R12). -/
def addressClaims (m : MillModel) : List Claim :=
  (m.detectors.map fun e => claim .detector e.1 0 e.2.addr) ++ m.flows.map fun e => claim .flow e.1 0 e.2.addr

/-- The output points claimed, in scan order (01 R12). -/
def outputClaims (m : MillModel) : List Claim :=
  (m.ducts.map fun e => claim .duct e.1 2 e.2.infeedOut) ++
    (m.valves.map fun e => claim .valve e.1 0 e.2.output) ++
    (m.gates.map fun e => claim .gate e.1 0 e.2.output) ++
    (m.groups.flatMap fun e => claim .group e.1 0 e.2.fanOut :: e.2.aux.map fun a => claim .group e.1 3 a.output) ++
    (m.walls.flatMap fun e => [claim .wall e.1 3 e.2.holderOut, claim .wall e.1 4 e.2.beaconOut]) ++
    (m.crossings.map fun e => claim .crossing e.1 2 e.2.holdOut) ++
    m.sirens.map fun e => claim .siren e.1 1 e.2.output

/-- The first claim of a number already claimed. -/
def firstRepeat (l : List Claim) : Option Place := (repeats [] l).head?.map fun c => c.place

/-- The ADDRESS check (01 R12). -/
def checkAddress (m : MillModel) : Option Place := firstRepeat (addressClaims m)

/-- The OUTPUT check (01 R12). -/
def checkOutput (m : MillModel) : Option Place := firstRepeat (outputClaims m)

/-- How many detectors of a role name a duct. -/
def detectorsOn (m : MillModel) (d : Nat) (role : Role) : Nat :=
  (m.detectors.filter fun e => e.2.duct = d && e.2.role == role).length

/-- The DEVICES check (01 R12). -/
def checkDevices (m : MillModel) : Option Place :=
  scan m.ducts fun n e =>
    let sensors := m.flows.filter fun f => f.2.duct = n
    [needs (within 1 4 (detectorsOn m n .upstream)) (wholeEntry .duct n),
      needs (decide (detectorsOn m n .downstream ≤ 2)) (wholeEntry .duct n),
      needs (decide (sensors.length = 1)) (wholeEntry .duct n),
      needs (sensors.all fun f => f.2.addr = e.flowAddr) (atEntry .duct n 4)]

/-- The GATE-DISTANCE check (01 R13). -/
def checkGateDistance (m : MillModel) : Option Place :=
  scan m.detectors fun n e =>
    [needs ((Table.get m.ducts e.duct).all fun d => d.gatePresent == e.gateDist.isSome) (atEntry .detector n 4)]

/-- The TRANSIT check (01 R13). -/
def checkTransit (m : MillModel) : Option Place :=
  scan m.detectors fun n e =>
    [needs (e.role != .upstream || (Table.get m.ducts e.duct).all fun d =>
      decide (ceilDiv ((e.dist.getD 0) * 1000) d.vMin ≤ d.wMax)) (atEntry .detector n 3)]

/-- The monitors named, in scan order (01 R14). -/
def monitorClaims (m : MillModel) : List Claim :=
  (m.valves.filterMap fun e => e.2.monitor.map (claim .valve e.1 6)) ++
    (m.walls.filterMap fun e => e.2.monitor.map (claim .wall e.1 5)) ++
    m.sirens.filterMap fun e => e.2.monitor.map (claim .siren e.1 2)

/-- The monitors named a second time by an entry of a table. -/
def namedAgain (m : MillModel) (t : TableId) : List (Option Place) :=
  ((repeats [] (monitorClaims m)).filter fun c => c.place.table == t).map fun c => some c.place

/-- A step names only its own group's points (01 R14). -/
def stepOwn (e : GroupEntry) (st : ListStep) : Bool :=
  match st with
  | .drive p _ => e.aux.any fun a => a.output = p
  | .await p _ _ => e.fanIn = p || e.aux.any fun a => a.feedback = some p
  | _ => true

/-- The steps of a list that name a point of another, numbered from k. -/
def stepUses (e : GroupEntry) (n field k : Nat) (steps : List ListStep) : List (Option Place) :=
  match steps with
  | [] => []
  | st :: r =>
    needs (stepOwn e st) { table := .group, entry := n, field := field, step := k } :: stepUses e n field (k + 1) r

/-- The USE check (01 R14). -/
def checkUse (m : MillModel) : Option Place :=
  firstFailure (namedAgain m .valve ++
    [scan m.groups fun n e => stepUses e n 4 1 e.shutdown ++ stepUses e n 5 1 e.restart] ++
    namedAgain m .wall ++ namedAgain m .siren ++
    [scan m.monitors fun n e =>
      [needs ((monitorClaims m).any fun c => c.number = n) (wholeEntry .monitor n),
        needs (m.monitors.all fun x => !(decide (x.1 < n) && x.2.channel = e.channel)) (atEntry .monitor n 0)]])

/-- The checks of COMMIT in their order (01 R11). -/
def commitChecks : List (MillModel → Option Place) :=
  [checkReference, checkAddress, checkOutput, checkDevices, checkGateDistance, checkTransit, checkUse]

/-- The arguments of a refused COMMIT (12 R182): the check's number, the table, the entry, the field, the step. -/
def failureArgs (check : Nat) (p : Place) : List Nat := [check, tableNumber p.table, p.entry, p.field, p.step]

/-- The first failure of the checks, numbered from k. -/
def runChecks (checks : List (MillModel → Option Place)) (k : Nat) (m : MillModel) : Option (List Nat) :=
  match checks with
  | [] => none
  | c :: r =>
    match c m with
    | some p => some (failureArgs k p)
    | none => runChecks r (k + 1) m

/-! ## What COMMIT builds (01 R15, R16) -/

/-- A device record after COMMIT (02 R22): every poll falls due at once. -/
def newDevice (kind : DeviceKind) (duct period : Nat) (now : PartTime) : Device :=
  { kind := kind, duct := duct, state := .unknown, misses := 0, flags := none, toggle := none, status := none,
    withheld := 0, period := period, pollAt := now, pollDue := true }

/-- The roster (01 R15): one record per present detector and flow sensor. -/
def buildRoster (m : MillModel) (now : PartTime) : Table Device :=
  let detectors := m.detectors.foldl (fun (t : Table Device) e =>
    Table.put t e.2.addr (newDevice (.detector e.2.role) e.2.duct Config.detectorPollPeriod now)) []
  m.flows.foldl (fun (t : Table Device) e => Table.put t e.2.addr (newDevice .flow e.2.duct e.2.period now)) detectors

/-- LC after COMMIT (01 R15, 10 R167): both counts and an owed ACK are kept (02 R22; log 21). DESIGN CHOICE (log 40): an
answer slot still open is closed, and counts no miss to a record of the new roster. DESIGN CHOICE (log 54): a loop that
was DOWN, a duct that was blind and a record that was not UNKNOWN come back with no LOOP-STATE, DUCT-BLIND or DEVICE-STATE
notice. -/
def buildLoop (m : MillModel) (now : PartTime) (lc : LoopController) : LoopController :=
  { lc with
    roster := buildRoster m now
    state := .up
    silence := some (now + ms Config.silenceTime)
    retry := none
    retryPos := 0
    powered := true
    answerSlot := none
    slot := none
    autoReads := []
    walks := m.ducts.map fun e => (e.1, { active := false, expiry := none, startedAt := none, sparks := 0, seen := [] }) }

/-- A velocity record after COMMIT (03 R37). -/
def newVelocity : Velocity := { vf := none, raw := none, readAt := none, stale := none, state := .stale, transit := none }

/-- A valve record after COMMIT (04 R54). -/
def newValve : Valve :=
  { state := .idle, failed := false, circuit := false, isolated := false, queue := [], flowed := false,
    settleRan := false, openExpiry := none, closeExpiry := none, settleExpiry := none, last := none, refusals := 0 }

/-- A gate record after COMMIT (04 R70). -/
def newGate : Gate := { state := .normal, commanded := false, travel := none, isolated := false, pending := none }

/-- A duct's spark state after COMMIT (05 R76). -/
def newSparks : DuctSparks := { ring := [], total := 0, wrapped := false }

/-- A group record after COMMIT (06 R99, 01 R16). -/
def newGroup (running : Bool) : Group :=
  { state := if running then .running else .stopped, priority := none, source := none, runner := none, fault := none,
    lastRun := none, isolated := false, refusals := 0 }

/-- A wall record after COMMIT (07 R118, R119, 01 R16). -/
def newWall (s : State) (e : WallEntry) : Wall :=
  { state := .normal, causes := { incident := false, manual := false, circuit := false }, warning := none,
    holder := .normal, isolated := false, refusals := 0, releasedAt := none,
    doors := e.doors.map fun p => doorByInput (inputMade s p) }

/-- A siren record after COMMIT (08 R136). -/
def newSiren : Siren :=
  { demands := [], testDemand := false, sounding := none, phase := none, cadence := none, fault := false,
    testFault := false, isolated := false }

/-- A monitor record after COMMIT (09 R155; log 29). -/
def newMonitor (e : MonitorEntry) (now : PartTime) : Monitor :=
  { state := .normal, candidate := none, count := 0, blanking := some (now + ms e.blanking) }

/-- The output points that a model has on after COMMIT (01 R15, R16): the fan run and infeed release outputs of the
groups whose fan feedback is made, the holder outputs and the damper hold outputs. -/
def outputsOn (m : MillModel) (s : State) : List Nat :=
  (m.groups.flatMap fun e => if inputMade s e.2.fanIn then e.2.fanOut :: infeedOutputs m e.1 else []) ++
    (m.walls.map fun e => e.2.holderOut) ++ m.crossings.map fun e => e.2.holdOut

/-- The auxiliary outputs of a model, which keep their levels at COMMIT (01 R16). -/
def auxOutputs (m : MillModel) : List Nat := m.groups.flatMap fun e => e.2.aux.map fun a => a.output

/-- The output image after COMMIT (01 R15, R16): every point off but those that the rules drive on, and the auxiliary
outputs as they stand. -/
def buildImage (m : MillModel) (s : State) : Levels :=
  let kept := (auxOutputs m).foldl (fun l p => setLevel l p (levelOf s.pi.out p)) 0#128
  (outputsOn m s).foldl (fun l p => setLevel l p true) kept

/-- A debounce timing in progress at COMMIT is restarted from it (09 R153). -/
def restartTimings (now : PartTime) (t : Table PartTime) : Table PartTime := t.map fun e => (e.1, now)

/-- The run state that a successful COMMIT builds from the tables (01 R15, R16). DESIGN CHOICE (log 55): a group, wall, door,
crossing, gate, valve or monitor record that is built in another state than the record it replaces posts no notice. -/
def buildRun (s : State) : State :=
  let m := s.tables
  { s with
    model := m
    lp := { s.lp with mode := .run, hostLostExpiry := hostLostStart .run s.lp.linkTimeout s.now }
    lc := buildLoop m s.now s.lc
    tc := m.ducts.map fun e => (e.1, newVelocity)
    vg := { valves := m.valves.map fun e => (e.1, newValve), gates := m.gates.map fun e => (e.1, newGate) }
    it := { incidents := [], lastId := 0, sparks := m.ducts.map fun e => (e.1, newSparks) }
    gs := m.groups.map fun e => (e.1, newGroup (inputMade s e.2.fanIn))
    cc := { walls := m.walls.map fun e => (e.1, newWall s e.2),
            crossings := m.crossings.map fun e => (e.1, crossingByInput (inputMade s e.2.closedIn)) }
    sc := { s.sc with sirens := m.sirens.map fun e => (e.1, newSiren), test := none }
    pi := { s.pi with out := buildImage m s, timing := restartTimings s.now s.pi.timing, debounceTime := m.debounce }
    cm := m.monitors.map fun e => (e.1, newMonitor e.2 s.now) }

/-- COMMIT (01 R11): the first failure is refused and changes nothing; else a host read in the slot ends (02 R34) and
the run state is built. -/
def judgeCommit (body : List Byte) (s : State) : Judged :=
  withBody (bodyEmpty body) (fun _ s =>
    match runChecks commitChecks 0 s.tables with
    | some args => refuse .badValue .field args s
    | none => accept .nothing (buildRun (abandonRead s))) s

/-- COMMIT (01 R11-R16). -/
def execCommit (tag : Byte) (body : List Byte) (s : State) : Host.Outcome State Fault Refusal :=
  taken (request .commit tag (judgeCommit body) s)

end Sys2Proof.Machine
end

