-- ==== Sys2Proof/Machine/Plant.lean ====
section
/-! DEFINITION. The requests that act on incidents and on plant items: ACK, RESET-INCIDENT, MANUAL-ALARM (Chapter 5),
SILENCE and TEST-SIRENS (Chapter 8), RESTART-GROUP and STOP-GROUP (Chapter 6), RELEASE-WALL and REHOLD-WALL
(Chapter 7), CLEAR-VALVE-FAIL (Chapter 4) and DRIVE-POINT (Chapters 6 and 9). -/

namespace Sys2Proof.Machine

/-! ## Incidents -/

/-- ACK (05 R91). -/
def judgeAck (body : List Byte) (s : State) : Judged :=
  withBody (bodyByte body) (fun id s =>
    match findIncident s id with
    | none => noSuch s
    | some i =>
      if i.acked then accept .nothing s
      else accept .nothing (postNotice .state (.incidentAcked id)
        (updIncident id (fun j => { j with acked := true, unacked := none }) s))) s

/-- The re-sound expiry that SILENCE leaves (08 R141). -/
def resoundStart (now : PartTime) (time : Nat) : Option PartTime := if time = 0 then none else some (now + seconds time)

/-- An accepted SILENCE (08 R141). -/
def silenceIncident (id time : Nat) (s : State) : State :=
  postNotice .state (.incidentSilenced id time)
    (updIncident id (fun j => { j with
      flags := { j.flags with silenced := true }, resound := resoundStart s.now time }) (setSilenced id true s))

/-- SILENCE (08 R141). -/
def judgeSilence (body : List Byte) (s : State) : Judged :=
  withBody (bodySilence body) (fun x s =>
    match findIncident s x.1 with
    | none => noSuch s
    | some i =>
      if 3600 < x.2 then badField 1 s
      else if i.level = 1 then refuse .badState .level1 [] s
      else accept .nothing (silenceIncident x.1 x.2 s)) s

/-- RESET-INCIDENT (05 R94). -/
def judgeResetIncident (body : List Byte) (s : State) : Judged :=
  withBody (bodyByte body) (fun id s =>
    match findIncident s id with
    | none => noSuch s
    | some i =>
      if !i.acked then refuse .badState .notAcked [] s
      else match notQuiet s i, valveBusy s i with
        | some d, _ => refuse .badState .notQuiet [d] s
        | none, some d => refuse .badState .valveBusy [d] s
        | none, none => accept .nothing (closeIncident id .reset s)) s

/-- MANUAL-ALARM (05 R85): a compartment that was merged raises the incident it was merged into (05 R97). -/
def judgeManualAlarm (body : List Byte) (s : State) : Judged :=
  withBody (bodyByte body) (fun c s =>
    if !present s.model.compartments c then noSuch s
    else match incidentOf s (.compartment c) with
      | some i => accept (.incidentId i.id) (rise i.id 3 [.manual] none s)
      | none =>
        let r := placeOrigin (.compartment c) 3 .manual none s
        accept (.incidentId r.2.1) (if r.2.2 then r.1 else rise r.2.1 3 [.manual] none r.1)) s

/-! ## Sirens -/

/-- TEST-SIRENS (08 R147). -/
def judgeTestSirens (body : List Byte) (s : State) : Judged :=
  withBody (bodyEmpty body) (fun _ s =>
    if anyRaised s then refuse .badState .incident [] s
    else if s.sc.test.isSome then refuse .badState .testRunning [] s
    else accept (.duration (testDuration s)) (startTest .host (testDuration s) s)) s

/-! ## Groups -/

/-- The state of a group as its record holds it. -/
def groupStateOf (s : State) (g : Nat) : GroupState := ((Table.get s.gs g).map fun r => r.state).getD .stopped

/-- A duct of a group that is an origin duct of a level-3 incident, with the incident (06 R113). DESIGN CHOICE (log 43): of
several such ducts, the first in duct order. -/
def groupOnFire (s : State) (g : Nat) : Option (Nat × Nat) :=
  (ductsOfGroup s.model g).findSome? fun d => (level3OnDuct s d).map fun i => (d, i.id)

/-- The walls named by the crossings of a group's ducts, in crossing order (06 R113). -/
def wallsOfGroup (m : MillModel) (g : Nat) : List Nat :=
  (m.crossings.filter fun c => (Table.get m.ducts c.2.duct).any fun d => d.group = g).map fun c => c.2.wall

/-- The first wall that a group's ducts cross and that is not NORMAL, with its state (06 R113). -/
def groupWall (s : State) (g : Nat) : Option (Nat × WallState) :=
  (wallsOfGroup s.model g).findSome? fun w =>
    (Table.get s.cc.walls w).bind fun r => if r.state = .normal then none else some (w, r.state)

/-- RESTART-GROUP (06 R113, R114). DESIGN CHOICE (log 53): the INTERLOCK by an incident, for which R113 names no reason,
carries the reason INCIDENT. -/
def judgeRestartGroup (body : List Byte) (s : State) : Judged :=
  withBody (bodyByte body) (fun g s =>
    match Table.get s.gs g, Table.get s.model.groups g with
    | some r, some e =>
      if r.isolated then refuse .badState .isolated [] s
      else if r.state ≠ .stopped then refuse .busy .state [(byteGroup r.state).toNat] s
      else match groupOnFire s g, groupWall s g with
        | some (d, id), _ => refuse .interlock .incident [d, id] s
        | none, some (w, x) => refuse .interlock .state [w, (byteWall x).toNat] s
        | none, none =>
          let s1 := beginRestart g e s
          accept (.groupState g (groupStateOf s1 g)) s1
    | _, _ => noSuch s) s

/-- STOP-GROUP (06 R115): an isolated group refuses it with the effects of R110. DESIGN CHOICE (log 46): the reply leads
with the group. -/
def judgeStopGroup (body : List Byte) (s : State) : Judged :=
  withBody (bodyByte body) (fun g s =>
    match Table.get s.gs g with
    | none => noSuch s
    | some r =>
      let s1 := (shutdownDemand g .normal .host s).1
      if r.isolated then refuse .badState .isolated [] s1 else accept (.groupState g (groupStateOf s1 g)) s1) s

/-! ## Walls -/

/-- The state of a wall as its record holds it. -/
def wallStateOf (s : State) (w : Nat) : WallState := ((Table.get s.cc.walls w).map fun r => r.state).getD .normal

/-- RELEASE-WALL (07 R122). DESIGN CHOICE (log 46): the reply leads with the wall. -/
def judgeReleaseWall (body : List Byte) (s : State) : Judged :=
  withBody (bodyByte body) (fun w s =>
    match Table.get s.cc.walls w with
    | none => noSuch s
    | some r =>
      if r.isolated then
        refuse .badState .isolated []
          (updWall w (fun r => { r with refusals := satInc r.refusals Config.counterLimit }) s)
      else
        let s1 := (releaseByState w (updWall w (fun r => { r with causes := { r.causes with manual := true } }) s)).1
        accept (.wallState w (wallStateOf s1 w)) s1) s

/-- An accepted REHOLD-WALL, by the wall's state (07 R129). -/
def reholdWall (w : Nat) (r : Wall) (e : WallEntry) (s : State) : State :=
  match r.state with
  | .normal => s
  | .warning =>
    cancelWarning w (updWall w (fun r => { r with
      causes := { incident := false, manual := false, circuit := false } }) s)
  | .released => reholdReleased w e s

/-- REHOLD-WALL (07 R129). DESIGN CHOICE (log 53): the INTERLOCK by an incident, for which R129 names no reason, carries
the reason INCIDENT. -/
def judgeReholdWall (body : List Byte) (s : State) : Judged :=
  withBody (bodyByte body) (fun w s =>
    match Table.get s.cc.walls w, Table.get s.model.walls w with
    | some r, some e =>
      if r.isolated then refuse .badState .isolated [] s
      else match wallInterlock s e with
        | some (c, id) => refuse .interlock .incident [c, id] s
        | none =>
          if r.holder ≠ .normal then refuse .interlock .holderCircuit [(byteCircuit r.holder).toNat] s
          else accept (.wallState w .normal) (reholdWall w r e s)
    | _, _ => noSuch s) s

/-! ## Valves and points -/

/-- CLEAR-VALVE-FAIL accepted (04 R65): an OPENING valve is judged afresh. -/
def clearValveFail (d : Nat) (v : Valve) (e : ValveEntry) (s : State) : State :=
  let s1 := postNotice .state (.valveRestored d) (updValve d (fun v => { v with failed := false }) s)
  if v.state = .opening then updValve d (fun v => { v with settleExpiry := some (s.now + ms e.settle) }) s1 else s1

/-- CLEAR-VALVE-FAIL (04 R65). -/
def judgeClearValveFail (body : List Byte) (s : State) : Judged :=
  withBody (bodyByte body) (fun d s =>
    match Table.get s.vg.valves d, Table.get s.model.valves d with
    | some v, some e =>
      if v.failed then accept .nothing (clearValveFail d v e s) else refuse .badState .none [] s
    | _, _ => noSuch s) s

/-- Who may drive a point by DRIVE-POINT (06 R116, 09 R152). -/
inductive PointOwner where
  | free
  | group (g : Nat)
  | claimed (table : TableId) (entry : Nat)
deriving DecidableEq, Repr

/-- The owner of an output point: a group for its owned points, none for an auxiliary output that no step names or for
an unclaimed point, and the claiming entry for any other (06 R116, 09 R152). -/
def pointOwner (m : MillModel) (p : Nat) : PointOwner :=
  match (outputClaims m).find? fun c => c.number = p with
  | none => .free
  | some c =>
    match c.place.table with
    | .duct => match Table.get m.ducts c.place.entry with
      | some d => .group d.group
      | none => .free
    | .group => match Table.get m.groups c.place.entry with
      | some e => if (ownedPoints m c.place.entry e).contains p then .group c.place.entry else .free
      | none => .free
    | t => .claimed t c.place.entry

/-- DRIVE-POINT (06 R116, 09 R152). DESIGN CHOICE (log 46): a drive of a group's point is answered with the point and its
level too. DESIGN CHOICE (log 53): OWNED, for which the two rules name no reason, carries the reason 0. -/
def judgeDrivePoint (body : List Byte) (s : State) : Judged :=
  withBody (bodyPoint body) (fun x s =>
    if Config.points ≤ x.1 then noSuch s
    else match pointOwner s.model x.1 with
      | .free => accept (.point x.1 x.2) (writeOut x.1 x.2 s)
      | .group g =>
        if (Table.get s.gs g).any fun r => r.isolated then accept (.point x.1 x.2) (writeOut x.1 x.2 s)
        else refuse .owned .none [g] s
      | .claimed t n => refuse .owned .none [tableNumber t, n] s) s

/-! ## The commands -/

/-- ACK (05 R91). -/
def execAck (tag : Byte) (body : List Byte) (s : State) : Host.Outcome State Fault Refusal :=
  taken (request .ack tag (judgeAck body) s)

/-- SILENCE (08 R141). -/
def execSilence (tag : Byte) (body : List Byte) (s : State) : Host.Outcome State Fault Refusal :=
  taken (request .silence tag (judgeSilence body) s)

/-- RESET_INCIDENT (05 R94). -/
def execResetIncident (tag : Byte) (body : List Byte) (s : State) : Host.Outcome State Fault Refusal :=
  taken (request .resetIncident tag (judgeResetIncident body) s)

/-- MANUAL_ALARM (05 R85). -/
def execManualAlarm (tag : Byte) (body : List Byte) (s : State) : Host.Outcome State Fault Refusal :=
  taken (request .manualAlarm tag (judgeManualAlarm body) s)

/-- RELEASE_WALL (07 R122). -/
def execReleaseWall (tag : Byte) (body : List Byte) (s : State) : Host.Outcome State Fault Refusal :=
  taken (request .releaseWall tag (judgeReleaseWall body) s)

/-- REHOLD_WALL (07 R129). -/
def execReholdWall (tag : Byte) (body : List Byte) (s : State) : Host.Outcome State Fault Refusal :=
  taken (request .reholdWall tag (judgeReholdWall body) s)

/-- RESTART_GROUP (06 R113, R114). -/
def execRestartGroup (tag : Byte) (body : List Byte) (s : State) : Host.Outcome State Fault Refusal :=
  taken (request .restartGroup tag (judgeRestartGroup body) s)

/-- STOP_GROUP (06 R115). -/
def execStopGroup (tag : Byte) (body : List Byte) (s : State) : Host.Outcome State Fault Refusal :=
  taken (request .stopGroup tag (judgeStopGroup body) s)

/-- TEST_SIRENS (08 R147). -/
def execTestSirens (tag : Byte) (body : List Byte) (s : State) : Host.Outcome State Fault Refusal :=
  taken (request .testSirens tag (judgeTestSirens body) s)

/-- DRIVE_POINT (06 R116, 09 R152). -/
def execDrivePoint (tag : Byte) (body : List Byte) (s : State) : Host.Outcome State Fault Refusal :=
  taken (request .drivePoint tag (judgeDrivePoint body) s)

/-- CLEAR_VALVE_FAIL (04 R65). -/
def execClearValveFail (tag : Byte) (body : List Byte) (s : State) : Host.Outcome State Fault Refusal :=
  taken (request .clearValveFail tag (judgeClearValveFail body) s)

end Sys2Proof.Machine
end

