-- ==== Sys2Proof/Machine/Maintenance.lean ====
section
/-! DEFINITION. Isolation and walk test (Chapter 10), and the loop maintenance requests (Chapter 2, R32). -/

namespace Sys2Proof.Machine

/-! ## ISOLATE (10 R161) -/

/-- The named element has a record (10 R161): a detector is named by its loop address, a valve or a gate by its duct. -/
def hasElement (k : ElementKind) (n : Nat) (s : State) : Bool :=
  match k with
  | .detector => holdsDetector s n
  | .valve => present s.vg.valves n
  | .gate => present s.vg.gates n
  | .wall => present s.cc.walls n
  | .siren => present s.sc.sirens n
  | .group => present s.gs n

/-- The isolated flag of an element; a detector's is its state ISOLATED (02 R24). -/
def isIsolated (k : ElementKind) (n : Nat) (s : State) : Bool :=
  match k with
  | .detector => (Table.get s.lc.roster n).any fun r => r.state == .isolated
  | .valve => (Table.get s.vg.valves n).any fun r => r.isolated
  | .gate => (Table.get s.vg.gates n).any fun r => r.isolated
  | .wall => (Table.get s.cc.walls n).any fun r => r.isolated
  | .siren => (Table.get s.sc.sirens n).any fun r => r.isolated
  | .group => (Table.get s.gs n).any fun r => r.isolated

/-- Why an ISOLATE is refused in the state its element is in, if it is (10 R161). DESIGN CHOICE (log 53): the BUSY of a
valve, for which R161 names a count and no reason, carries the reason 0. -/
def isolateRefusal (k : ElementKind) (n : Nat) (s : State) : Option (RefusalCode × Reason × List Nat) :=
  match k with
  | .valve =>
    match Table.get s.vg.valves n with
    | some v => if v.queue.isEmpty then none else some (.busy, .none, [v.queue.length])
    | none => none
  | .gate =>
    match Table.get s.vg.gates n with
    | some g => if g.state = .normal then none else some (.badState, .state, [(byteGate g.state).toNat])
    | none => none
  | .wall =>
    match Table.get s.cc.walls n with
    | some w => if w.state = .normal then none else some (.badState, .state, [(byteWall w.state).toNat])
    | none => none
  | .group =>
    match Table.get s.gs n with
    | some g =>
      if g.state = .running ∨ g.state = .stopped then none else some (.busy, .state, [(byteGroup g.state).toNat])
    | none => none
  | _ => none

/-- A changed flag is noticed (10 R161): a detector's DEVICE-STATE notice stands for it. -/
def noteIsolation (k : ElementKind) (n : Nat) (isolated : Bool) (s : State) : State :=
  postNotice .state (.isolation k n isolated) s

/-- An element whose flag is clear is isolated (10 R161; 02 R24, 04 R67, R75, 07 R130, 08 R143, 06 R110). -/
def isolateElement (k : ElementKind) (n : Nat) (s : State) : State :=
  match k with
  | .detector => setDevice n .isolated s
  | .valve => noteIsolation k n true (updValve n (fun v => { v with isolated := true }) s)
  | .gate => noteIsolation k n true (updGate n (fun g => { g with isolated := true }) s)
  | .wall => noteIsolation k n true (updWall n (fun w => { w with isolated := true }) s)
  | .siren => noteIsolation k n true (isolateSiren n s)
  | .group => noteIsolation k n true (updGroup n (fun g => { g with isolated := true }) s)

/-- ISOLATE (10 R161). DESIGN CHOICE (log 57): the reply names the element by its kind and its number. -/
def judgeIsolate (body : List Byte) (s : State) : Judged :=
  withBody (bodyElement body) (fun x s =>
    if !hasElement x.1 x.2 s then noSuch s
    else match isolateRefusal x.1 x.2 s with
      | some (c, why, args) => refuse c why args s
      | none => accept (.element x.1 x.2 true) (if isIsolated x.1 x.2 s then s else isolateElement x.1 x.2 s)) s

/-! ## RESTORE (10 R161, R163-R165) -/

/-- A restored gate is judged by its position input (04 R75). -/
def judgeGate (d : Nat) (s : State) : State :=
  match Table.get s.model.gates d with
  | none => s
  | some e => if inputMade s e.positionIn then setGateState d .jammed s else s

/-- A restored wall is judged by its holder circuit, then by the level-3 incidents held (07 R130, 10 R163). The
demand makes no entry in any action list. -/
def judgeWall (w : Nat) (s : State) : State :=
  match Table.get s.cc.walls w, Table.get s.model.walls w with
  | some r, some e =>
    if r.holder ≠ .normal then circuitRelease w s
    else if (wallInterlock s e).isSome then
      (releaseByState w (updWall w (fun r => { r with causes := { r.causes with incident := true } }) s)).1
    else s
  | _, _ => s

/-- A wall that a group's ducts cross is RELEASED (10 R164). -/
def crossesReleased (s : State) (g : Nat) : Bool := (wallsOfGroup s.model g).any fun w => wallReleased s w

/-- A restored group is judged in two steps (10 R164). -/
def judgeGroup (g : Nat) (s : State) : State :=
  let s1 := if (groupOnFire s g).isSome || crossesReleased s g then (shutdownDemand g .normal .restore s).1 else s
  match Table.get s1.gs g, Table.get s1.model.groups g with
  | some r, some e => if r.state = .running ∧ inputMade s1 e.fanIn = false then fanTrips g s1 else s1
  | _, _ => s1

/-- An element whose flag is set is restored, and judged again (10 R161, R163-R165). -/
def restoreElement (k : ElementKind) (n : Nat) (s : State) : State :=
  match k with
  | .detector => setDevice n (((Table.get s.lc.roster n).map restoredState).getD .unknown) s
  | .valve => noteIsolation k n false (updValve n (fun v => { v with isolated := false }) s)
  | .gate => judgeGate n (noteIsolation k n false (updGate n (fun g => { g with isolated := false }) s))
  | .wall => judgeWall n (noteIsolation k n false (updWall n (fun w => { w with isolated := false }) s))
  | .siren => noteIsolation k n false (restoreSiren n s)
  | .group => judgeGroup n (noteIsolation k n false (updGroup n (fun g => { g with isolated := false }) s))

/-- RESTORE (10 R161). DESIGN CHOICE (log 57): the reply names the element by its kind and its number. -/
def judgeRestore (body : List Byte) (s : State) : Judged :=
  withBody (bodyElement body) (fun x s =>
    if !hasElement x.1 x.2 s then noSuch s
    else accept (.element x.1 x.2 false) (if isIsolated x.1 x.2 s then restoreElement x.1 x.2 s else s)) s

/-! ## The walk test (10 R167, R169) -/

/-- An accepted WALK-START (10 R167): an OFF record begins a walk, an ACTIVE one is extended. -/
def startWalk (d : Nat) (expiry : PartTime) (s : State) : State :=
  updWalk d (fun w =>
    if w.active then { w with expiry := some expiry }
    else { active := true, expiry := some expiry, startedAt := some s.now, sparks := 0, seen := [] }) s

/-- WALK-START (10 R167): the duration is in minutes. -/
def judgeWalkStart (body : List Byte) (s : State) : Judged :=
  withBody (bodyTwo body) (fun x s =>
    if !present s.lc.walks x.1 then noSuch s
    else if x.2 < 1 ∨ 60 < x.2 then badField 1 s
    else match incidentOf s (.duct x.1) with
      | some i => refuse .badState .inIncident [i.id] s
      | none =>
        if (Table.get s.vg.valves x.1).any fun v => !v.queue.isEmpty then refuse .badState .valveBusy [] s
        else
          let expiry := s.now + seconds (x.2 * 60)
          accept (.walk x.1 expiry) (startWalk x.1 expiry s)) s

/-- WALK-END (10 R169). -/
def judgeWalkEnd (body : List Byte) (s : State) : Judged :=
  withBody (bodyByte body) (fun d s =>
    match Table.get s.lc.walks d with
    | none => noSuch s
    | some w => if w.active then accept .nothing (endWalk d false s) else refuse .badState .notWalking [] s) s

/-! ## Loop maintenance (02 R32) -/

/-- DETECTOR-TEST (02 R32, R35). -/
def judgeDetectorTest (body : List Byte) (s : State) : Judged :=
  withBody (bodyTwo body) (fun x s =>
    if s.lc.slot.isSome then refuse .loopBusy .none [] s
    else if s.lc.state = .down then refuse .badState .none [] s
    else if x.1 < 1 ∨ 63 < x.1 then badField 0 s
    else if 63 < x.2 then badField 1 s
    else accept .nothing { s with lc := { s.lc with
      slot := some (.test (BitVec.ofNat 6 x.1) (BitVec.ofNat 6 x.2) true none []) } }) s

/-- READ-DETECTOR (02 R32, R34). -/
def judgeReadDetector (body : List Byte) (s : State) : Judged :=
  withBody (bodyByte body) (fun a s =>
    if s.lc.slot.isSome then refuse .loopBusy .none [] s
    else if s.lc.state = .down then refuse .badState .none [] s
    else if !holdsDetector s a then noSuch s
    else accept .nothing { s with lc := { s.lc with slot := some (newRead a false s.now) } }) s

/-! ## The commands -/

/-- ISOLATE (10 R161). -/
def execIsolate (tag : Byte) (body : List Byte) (s : State) : Host.Outcome State Fault Refusal :=
  taken (request .isolate tag (judgeIsolate body) s)

/-- RESTORE (10 R161, R163-R165). -/
def execRestore (tag : Byte) (body : List Byte) (s : State) : Host.Outcome State Fault Refusal :=
  taken (request .restore tag (judgeRestore body) s)

/-- WALK_START (10 R167). -/
def execWalkStart (tag : Byte) (body : List Byte) (s : State) : Host.Outcome State Fault Refusal :=
  taken (request .walkStart tag (judgeWalkStart body) s)

/-- WALK_END (10 R169). -/
def execWalkEnd (tag : Byte) (body : List Byte) (s : State) : Host.Outcome State Fault Refusal :=
  taken (request .walkEnd tag (judgeWalkEnd body) s)

/-- DETECTOR_TEST (02 R32). -/
def execDetectorTest (tag : Byte) (body : List Byte) (s : State) : Host.Outcome State Fault Refusal :=
  taken (request .detectorTest tag (judgeDetectorTest body) s)

/-- READ_DETECTOR (02 R32). -/
def execReadDetector (tag : Byte) (body : List Byte) (s : State) : Host.Outcome State Fault Refusal :=
  taken (request .readDetector tag (judgeReadDetector body) s)

end Sys2Proof.Machine
end

