-- ==== Sys2Proof/Machine/Queries.lean ====
section
/-! DEFINITION. The queries (03 R53, 04 R69, 05 R98, 06 R117, 07 R132, 08 R149, 02 R36, 11 R181): each returns records
and changes nothing, but for the clear option of QUERY-DUCT. -/

namespace Sys2Proof.Machine

/-- The level of an output point in the image (09 R150). -/
def outLevel (s : State) (p : Nat) : Bool := levelOf s.pi.out p

/-- The debounced level of an input point: absent while it is unknown (09 R153). -/
def inLevel (s : State) (p : Nat) : Option Bool := Table.get s.pi.debounced p

/-- QUERY-DUCT (03 R53, 05 R98, 10 R167); an index beyond 15 is refused NO-SUCH (log 12). -/
def judgeQueryDuct (body : List Byte) (s : State) : Judged :=
  withBody (bodyQueryDuct body) (fun x s =>
    if 16 ≤ x.1 then noSuch s
    else
      accept (.duct (Table.get s.tc x.1) (Table.get s.it.sparks x.1)
          ((incidentOf s (.duct x.1)).map fun i => i.id) (Table.get s.lc.walks x.1))
        (if x.2 then updSparks x.1 (fun r => { r with total := 0, wrapped := false }) s else s)) s

/-- QUERY-VALVE (04 R69). -/
def judgeQueryValve (body : List Byte) (s : State) : Judged :=
  withBody (bodyByte body) (fun d s =>
    if 16 ≤ d then noSuch s else accept (.valve (Table.get s.vg.valves d) (Table.get s.vg.gates d)) s) s

/-- An incident as the list of QUERY-INCIDENT gives it (05 R98). -/
def briefOf (i : Incident) : IncidentBrief :=
  { id := i.id, level := i.level, acked := i.acked, primary := i.primary.id }

/-- QUERY-INCIDENT (05 R98). -/
def judgeQueryIncident (body : List Byte) (s : State) : Judged :=
  withBody (bodyQueryIncident body) (fun x s =>
    match x with
    | none => accept (.incidents (s.it.incidents.map briefOf)) s
    | some id =>
      match findIncident s id with
      | some i => accept (.incident i s.now) s
      | none => noSuch s) s

/-- QUERY-GROUP (06 R117). DESIGN CHOICE (log 24): the number of each point is returned beside its level. -/
def judgeQueryGroup (body : List Byte) (s : State) : Judged :=
  withBody (bodyByte body) (fun g s =>
    if 6 ≤ g then noSuch s
    else match Table.get s.model.groups g with
      | none => accept (.group none [] [] none []) s
      | some e =>
        accept (.group (Table.get s.gs g)
          ((ownedPoints s.model g e).map fun p => (p, outLevel s p))
          (e.aux.map fun a => (a.output, outLevel s a.output)) (inLevel s e.fanIn)
          ((e.aux.filterMap fun a => a.feedback).map fun p => (p, inLevel s p))) s) s

/-- A crossing of a wall as QUERY-WALL returns it (07 R132). DESIGN CHOICE (log 24): its number is returned too. -/
def crossingView (s : State) (c : Nat × CrossingEntry) : CrossingView :=
  let r := (Table.get s.cc.crossings c.1).getD { state := .opened, expiry := none }
  { crossing := c.1, duct := c.2.duct, state := r.state, expiry := r.expiry, level := inLevel s c.2.closedIn }

/-- QUERY-WALL (07 R132). DESIGN CHOICE (log 24): the holder and beacon levels of a wall with no record are off. -/
def judgeQueryWall (body : List Byte) (s : State) : Judged :=
  withBody (bodyByte body) (fun w s =>
    if 12 ≤ w then noSuch s
    else match Table.get s.model.walls w with
      | none => accept (.wall none false false [] [] []) s
      | some e =>
        accept (.wall (Table.get s.cc.walls w) (outLevel s e.holderOut) (outLevel s e.beaconOut)
          ((damperOutputs s.model w).map (outLevel s)) (e.doors.map (inLevel s))
          ((crossingsOfWall s.model w).map (crossingView s))) s) s

/-- QUERY-SIREN (08 R149). -/
def judgeQuerySiren (body : List Byte) (s : State) : Judged :=
  withBody (bodyOptional body) (fun x s =>
    match x with
    | none => accept (.sirenTest s.sc.test s.sc.clock s.model.plan) s
    | some n =>
      if 16 ≤ n then noSuch s
      else match Table.get s.sc.sirens n, Table.get s.model.sirens n with
        | some r, some e => accept (.siren (some (r, e.sector, outLevel s e.output))) s
        | _, _ => accept (.siren none) s) s

/-- The loop record of QUERY-LOOP (02 R36). -/
def loopView (s : State) : LoopView :=
  { state := s.lc.state, errors := s.lc.errors, foreign := s.lc.foreign, slot := s.lc.slot,
    autoReads := s.lc.autoReads, blind := blindDucts s }

/-- QUERY-LOOP (02 R36). -/
def judgeQueryLoop (body : List Byte) (s : State) : Judged :=
  withBody (bodyOptional body) (fun x s =>
    match x with
    | none => accept (.loop (loopView s) none) s
    | some a =>
      match Table.get s.lc.roster a with
      | some r => accept (.loop (loopView s) (some r)) s
      | none => noSuch s) s

/-- How many notices of a class the queue holds. -/
def countClass (s : State) (c : NoticeClass) : Nat := (s.lp.notices.filter fun n => n.cls == c).length

/-- QUERY-LINK's data (11 R181): the lines and conditions as they stand once this frame has been taken. -/
def linkView (s : State) : LinkView :=
  { mode := s.lp.mode, linkTimeout := s.lp.linkTimeout, attnThreshold := s.lp.attnThreshold, errors := s.lp.errors,
    hostLost := s.lp.hostLost.isSome, hostLostExpiry := s.lp.hostLostExpiry, notices := s.lp.notices.length,
    alarms := countClass s .alarm, faults := countClass s .fault, states := countClass s .state,
    overrun := s.lp.overrun, nextSeq := s.lp.nextSeq, lines := judgeLines s, conditions := conditions s,
    time := s.now, clock := s.sc.clock }

/-- QUERY-LINK (11 R181). -/
def judgeQueryLink (body : List Byte) (s : State) : Judged :=
  withBody (bodyEmpty body) (fun _ s => accept (.link (linkView s)) s) s

/-! ## The commands -/

/-- QUERY_DUCT (03 R53, 05 R98). -/
def execQueryDuct (tag : Byte) (body : List Byte) (s : State) : Host.Outcome State Fault Refusal :=
  taken (request .queryDuct tag (judgeQueryDuct body) s)

/-- QUERY_VALVE (04 R69). -/
def execQueryValve (tag : Byte) (body : List Byte) (s : State) : Host.Outcome State Fault Refusal :=
  taken (request .queryValve tag (judgeQueryValve body) s)

/-- QUERY_INCIDENT (05 R98). -/
def execQueryIncident (tag : Byte) (body : List Byte) (s : State) : Host.Outcome State Fault Refusal :=
  taken (request .queryIncident tag (judgeQueryIncident body) s)

/-- QUERY_GROUP (06 R117). -/
def execQueryGroup (tag : Byte) (body : List Byte) (s : State) : Host.Outcome State Fault Refusal :=
  taken (request .queryGroup tag (judgeQueryGroup body) s)

/-- QUERY_WALL (07 R132). -/
def execQueryWall (tag : Byte) (body : List Byte) (s : State) : Host.Outcome State Fault Refusal :=
  taken (request .queryWall tag (judgeQueryWall body) s)

/-- QUERY_SIREN (08 R149). -/
def execQuerySiren (tag : Byte) (body : List Byte) (s : State) : Host.Outcome State Fault Refusal :=
  taken (request .querySiren tag (judgeQuerySiren body) s)

/-- QUERY_LOOP (02 R36). -/
def execQueryLoop (tag : Byte) (body : List Byte) (s : State) : Host.Outcome State Fault Refusal :=
  taken (request .queryLoop tag (judgeQueryLoop body) s)

/-- QUERY_LINK (11 R181). -/
def execQueryLink (tag : Byte) (body : List Byte) (s : State) : Host.Outcome State Fault Refusal :=
  taken (request .queryLink tag (judgeQueryLink body) s)

end Sys2Proof.Machine
end

