-- ==== Sys2Proof/Machine/Session.lean ====
section
/-! DEFINITION. The requests of the link session (Chapter 11): SETUP, ENTER-CONFIG and FETCH; and SET-CLOCK
(Chapter 8). -/

namespace Sys2Proof.Machine

/-- The mode after SETUP (11 R174). -/
def setupMode (m : Mode) : Mode :=
  match m with
  | .linkWait => .config
  | other => other

/-- SETUP (11 R174): link timeout 0 to 60 s, ATTN threshold 1 to 64. -/
def judgeSetup (body : List Byte) (s : State) : Judged :=
  withBody (bodyTwo body) (fun x s =>
    if 60 < x.1 then badField 0 s
    else if x.2 < 1 ∨ 64 < x.2 then badField 1 s
    else
      accept (.setup s.lp.mode (setupMode s.lp.mode)) { s with lp := { s.lp with
        linkTimeout := x.1
        attnThreshold := x.2
        mode := setupMode s.lp.mode
        hostLostExpiry := hostLostStart s.lp.mode x.1 s.now } }) s

/-- The entry to CONFIG (11 R176): VG closes every valve, SC ends its test and its demands. -/
def enterConfig (s : State) : State :=
  sirensToConfig (valvesToConfig { s with lp := { s.lp with mode := .config, hostLostExpiry := none } })

/-- The first group whose list runs (11 R176). -/
def movingGroup (s : State) : Option (Nat × GroupState) :=
  (s.gs.find? fun e => e.2.state == .stopping || e.2.state == .starting).map fun e => (e.1, e.2.state)

/-- ENTER-CONFIG (11 R176). -/
def judgeEnterConfig (body : List Byte) (s : State) : Judged :=
  withBody (bodyEmpty body) (fun _ s =>
    match s.it.incidents, movingGroup s with
    | i :: _, _ => refuse .badState .incident [i.id] s
    | [], some (g, x) => refuse .badState .state [g, (byteGroup x).toNat] s
    | [], none => accept (.mode .config) (enterConfig s)) s

/-- FETCH (11 R178): the oldest notices, as many as asked and as fit, leave the queue, and the overrun flag clears. -/
def judgeFetch (body : List Byte) (s : State) : Judged :=
  withBody (bodyByte body) (fun n s =>
    if n < 1 ∨ 8 < n then badField 0 s
    else
      let k := fetchCount n fetchRoom s.lp.notices
      accept (.fetched (s.lp.notices.take k) (s.lp.notices.drop k).length s.lp.overrun)
        { s with lp := { s.lp with notices := s.lp.notices.drop k, overrun := false } }) s

/-- The first field of a clock setting that lies outside its range (08 R144, R145). -/
def clockError (t : Stamp) : Option Nat :=
  if Config.counterLimit < t.day then some 0
  else if 6 < t.weekday then some 1
  else if 23 < t.hour then some 2
  else if 59 < t.minute then some 3
  else if 59 < t.second then some 4
  else none

/-- SET-CLOCK (08 R145): the setting is not a minute change. -/
def judgeSetClock (body : List Byte) (s : State) : Judged :=
  withBody (bodyClock body) (fun t s =>
    match clockError t with
    | some field => badField field s
    | none => accept .nothing { s with sc := { s.sc with
        clock := { time := t, isSet := true }, nextAdvance := s.now + ms Config.clockInterval } }) s

/-! ## The commands -/

/-- SETUP (11 R174). -/
def execSetup (tag : Byte) (body : List Byte) (s : State) : Host.Outcome State Fault Refusal :=
  taken (request .setup tag (judgeSetup body) s)

/-- ENTER_CONFIG (11 R176). -/
def execEnterConfig (tag : Byte) (body : List Byte) (s : State) : Host.Outcome State Fault Refusal :=
  taken (request .enterConfig tag (judgeEnterConfig body) s)

/-- FETCH (11 R178). -/
def execFetch (tag : Byte) (body : List Byte) (s : State) : Host.Outcome State Fault Refusal :=
  taken (request .fetch tag (judgeFetch body) s)

/-- SET_CLOCK (08 R145). -/
def execSetClock (tag : Byte) (body : List Byte) (s : State) : Host.Outcome State Fault Refusal :=
  taken (request .setClock tag (judgeSetClock body) s)

end Sys2Proof.Machine
end

