-- ==== Sys2Proof/Machine/Receiver.lean ====
section
/-! DEFINITION. The receiver of the link (11 R171), byte by byte: the last byte of a valid frame is taken in one event
with the request it completes (log 6). -/

namespace Sys2Proof.Machine

/-- The judgement of a request by its kind (12 R182). -/
def judgeOf (k : ReqKind) (body : List Byte) : State → Judged :=
  match k with
  | .setup => judgeSetup body
  | .load => judgeLoad body
  | .clearConfig => judgeClearConfig body
  | .commit => judgeCommit body
  | .enterConfig => judgeEnterConfig body
  | .queryDuct => judgeQueryDuct body
  | .queryValve => judgeQueryValve body
  | .queryIncident => judgeQueryIncident body
  | .queryGroup => judgeQueryGroup body
  | .queryWall => judgeQueryWall body
  | .querySiren => judgeQuerySiren body
  | .queryLoop => judgeQueryLoop body
  | .queryLink => judgeQueryLink body
  | .fetch => judgeFetch body
  | .setClock => judgeSetClock body
  | .ack => judgeAck body
  | .silence => judgeSilence body
  | .resetIncident => judgeResetIncident body
  | .manualAlarm => judgeManualAlarm body
  | .releaseWall => judgeReleaseWall body
  | .reholdWall => judgeReholdWall body
  | .restartGroup => judgeRestartGroup body
  | .stopGroup => judgeStopGroup body
  | .testSirens => judgeTestSirens body
  | .isolate => judgeIsolate body
  | .restore => judgeRestore body
  | .walkStart => judgeWalkStart body
  | .walkEnd => judgeWalkEnd body
  | .detectorTest => judgeDetectorTest body
  | .readDetector => judgeReadDetector body
  | .drivePoint => judgeDrivePoint body
  | .clearValveFail => judgeClearValveFail body

/-- The payload of a valid frame is taken as a request (11 R172). -/
def takePayload (payload : List Byte) (s : State) : State :=
  match payload with
  | code :: tag :: body =>
    match kindOfCode code with
    | some k => request k tag (judgeOf k body) s
    | none => unknownRequest code tag s
  | _ => dropFrame s

/-- The two check bytes of a frame as a number. -/
def checkOf (bs : List Byte) : Nat := bs.foldl (fun n b => n * 256 + b.toNat) 0

/-- The last check byte of a frame has been taken (11 R171): the frame is valid or discarded. -/
def endFrame (length : Nat) (bytes : List Byte) (s : State) : State :=
  if (linkCheck (byteOf length :: bytes.take length)).toNat = checkOf (bytes.drop length) then
    takePayload (bytes.take length) s
  else dropFrame s

/-- The receiver takes a byte (11 R171) that ends no gap. -/
def takeLinkByte (b : Byte) (s : State) : State :=
  match s.lp.receiver with
  | .hunting => if b = Config.syncByte then setReceiver (.awaitLength s.now) s else s
  | .awaitLength _ =>
    if Config.minPayload ≤ b.toNat ∧ b.toNat ≤ Config.maxPayload then
      setReceiver (.inFrame b.toNat [] (b.toNat + 2) s.now) s
    else dropFrame s
  | .inFrame length bytes rest _ =>
    if rest ≤ 1 then endFrame length (bytes ++ [b]) s
    else setReceiver (.inFrame length (bytes ++ [b]) (rest - 1) s.now) s

/-- LINK_BYTE_RECEIVED (11 R171): a byte that ends a gap of more than 20 ms is taken as though hunting. -/
def execLinkByteReceived (b : Byte) (s : State) : Host.Outcome State Fault Refusal :=
  taken (takeLinkByte b (abandonFrame s))

end Sys2Proof.Machine
end

