-- ==== Sys2Proof/Machine/Dispatch.lean ====
section
/-! DEFINITION. The one dispatch: each command to its meaning. -/

namespace Sys2Proof.Machine

/-- The effect of a command on everything but the queue. -/
def exec (i : Instr) (s : State) : Host.Outcome State Fault Refusal :=
  match i with
  | .coldReset => Sys2Proof.Machine.execColdReset s
  | .linkFrameDiscarded => Sys2Proof.Machine.execLinkFrameDiscarded s
  | .linkByteGapTimeout => Sys2Proof.Machine.execLinkByteGapTimeout s
  | .unknownKind kind tag body => Sys2Proof.Machine.execUnknownKind kind tag body s
  | .replySent => Sys2Proof.Machine.execReplySent s
  | .setup tag body => Sys2Proof.Machine.execSetup tag body s
  | .load tag body => Sys2Proof.Machine.execLoad tag body s
  | .clearConfig tag body => Sys2Proof.Machine.execClearConfig tag body s
  | .commit tag body => Sys2Proof.Machine.execCommit tag body s
  | .enterConfig tag body => Sys2Proof.Machine.execEnterConfig tag body s
  | .queryDuct tag body => Sys2Proof.Machine.execQueryDuct tag body s
  | .queryValve tag body => Sys2Proof.Machine.execQueryValve tag body s
  | .queryIncident tag body => Sys2Proof.Machine.execQueryIncident tag body s
  | .queryGroup tag body => Sys2Proof.Machine.execQueryGroup tag body s
  | .queryWall tag body => Sys2Proof.Machine.execQueryWall tag body s
  | .querySiren tag body => Sys2Proof.Machine.execQuerySiren tag body s
  | .queryLoop tag body => Sys2Proof.Machine.execQueryLoop tag body s
  | .queryLink tag body => Sys2Proof.Machine.execQueryLink tag body s
  | .fetch tag body => Sys2Proof.Machine.execFetch tag body s
  | .setClock tag body => Sys2Proof.Machine.execSetClock tag body s
  | .ack tag body => Sys2Proof.Machine.execAck tag body s
  | .silence tag body => Sys2Proof.Machine.execSilence tag body s
  | .resetIncident tag body => Sys2Proof.Machine.execResetIncident tag body s
  | .manualAlarm tag body => Sys2Proof.Machine.execManualAlarm tag body s
  | .releaseWall tag body => Sys2Proof.Machine.execReleaseWall tag body s
  | .reholdWall tag body => Sys2Proof.Machine.execReholdWall tag body s
  | .restartGroup tag body => Sys2Proof.Machine.execRestartGroup tag body s
  | .stopGroup tag body => Sys2Proof.Machine.execStopGroup tag body s
  | .testSirens tag body => Sys2Proof.Machine.execTestSirens tag body s
  | .isolate tag body => Sys2Proof.Machine.execIsolate tag body s
  | .restore tag body => Sys2Proof.Machine.execRestore tag body s
  | .walkStart tag body => Sys2Proof.Machine.execWalkStart tag body s
  | .walkEnd tag body => Sys2Proof.Machine.execWalkEnd tag body s
  | .detectorTest tag body => Sys2Proof.Machine.execDetectorTest tag body s
  | .readDetector tag body => Sys2Proof.Machine.execReadDetector tag body s
  | .drivePoint tag body => Sys2Proof.Machine.execDrivePoint tag body s
  | .clearValveFail tag body => Sys2Proof.Machine.execClearValveFail tag body s
  | .hostLostExpiry => Sys2Proof.Machine.execHostLostExpiry s
  | .pollDue addr => Sys2Proof.Machine.execPollDue addr s
  | .loopFrameSlot => Sys2Proof.Machine.execLoopFrameSlot s
  | .detectorPollAnswer addr soiled fault service => Sys2Proof.Machine.execDetectorPollAnswer addr soiled fault service s
  | .flowSensorAnswer addr raw => Sys2Proof.Machine.execFlowSensorAnswer addr raw s
  | .pollNoAnswer addr => Sys2Proof.Machine.execPollNoAnswer addr s
  | .loopFrameSpoiled slot => Sys2Proof.Machine.execLoopFrameSpoiled slot s
  | .sparkReport addr toggle kind age => Sys2Proof.Machine.execSparkReport addr toggle kind age s
  | .statusAnswer addr fault soiling => Sys2Proof.Machine.execStatusAnswer addr fault soiling s
  | .silenceExpiry => Sys2Proof.Machine.execSilenceExpiry s
  | .loopOvercurrent => Sys2Proof.Machine.execLoopOvercurrent s
  | .retryExpiry => Sys2Proof.Machine.execRetryExpiry s
  | .readStatusAttemptExpiry => Sys2Proof.Machine.execReadStatusAttemptExpiry s
  | .detectorTestWindowExpiry => Sys2Proof.Machine.execDetectorTestWindowExpiry s
  | .staleExpiry duct => Sys2Proof.Machine.execStaleExpiry duct s
  | .openExpiry duct => Sys2Proof.Machine.execOpenExpiry duct s
  | .settleExpiry duct => Sys2Proof.Machine.execSettleExpiry duct s
  | .closeExpiry duct => Sys2Proof.Machine.execCloseExpiry duct s
  | .travelExpiry duct => Sys2Proof.Machine.execTravelExpiry duct s
  | .unackedExpiry id => Sys2Proof.Machine.execUnackedExpiry id s
  | .quietExpiry id => Sys2Proof.Machine.execQuietExpiry id s
  | .silenceResoundExpiry id => Sys2Proof.Machine.execSilenceResoundExpiry id s
  | .pauseExpiry group => Sys2Proof.Machine.execPauseExpiry group s
  | .stepTimeout group => Sys2Proof.Machine.execStepTimeout group s
  | .warningExpiry wall => Sys2Proof.Machine.execWarningExpiry wall s
  | .doorCloseExpiry wall door => Sys2Proof.Machine.execDoorCloseExpiry wall door s
  | .damperExpiry crossing => Sys2Proof.Machine.execDamperExpiry crossing s
  | .cadenceExpiry siren => Sys2Proof.Machine.execCadenceExpiry siren s
  | .clockAdvance => Sys2Proof.Machine.execClockAdvance s
  | .testExpiry => Sys2Proof.Machine.execTestExpiry s
  | .outChainPass intact => Sys2Proof.Machine.execOutChainPass intact s
  | .inChainPass intact levels => Sys2Proof.Machine.execInChainPass intact levels s
  | .chainGoodExpiry chain => Sys2Proof.Machine.execChainGoodExpiry chain s
  | .debounceExpiry point => Sys2Proof.Machine.execDebounceExpiry point s
  | .monitorSample channel level => Sys2Proof.Machine.execMonitorSample channel level s
  | .blankingExpiry monitor => Sys2Proof.Machine.execBlankingExpiry monitor s
  | .walkExpiry duct => Sys2Proof.Machine.execWalkExpiry duct s
  | .linkByteReceived b => Sys2Proof.Machine.execLinkByteReceived b s
  | .sparkRingEntryAged duct => Sys2Proof.Machine.execSparkRingEntryAged duct s
  | .lastSparkHeld duct => Sys2Proof.Machine.execLastSparkHeld duct s

end Sys2Proof.Machine
end

