-- ==== Sys2Proof/Safety.lean ====
section
/-! DEFINITION. The terms the statements use: what a run may not break (the lines, the limits of the queues and
tables), what a command may touch (its frame), and the reply of a request. -/

namespace Sys2Proof.Machine

/-! ## Laws of a safe run -/

/-- The three lines stand as their rules say: ATTN by the notice queue (11 R179), ALARM by the incident table
(05 R90), FAULT by the fault conditions (09 R159). -/
structure LinesLaw (s : State) : Prop where
  attn : s.lines.attn = true ↔
    s.lp.attnThreshold ≤ s.lp.notices.length ∨ ∃ n ∈ s.lp.notices, n.cls = .alarm
  alarm : s.lines.alarm = true ↔ ∃ i ∈ s.it.incidents, 2 ≤ i.level
  fault : s.lines.fault = true ↔ ∃ c : FaultCondition, presented s c = true

/-- The queues, the incident table with its lists, and the rings keep their limits: 64 notices and 4 replies (11 R170), 16
incidents with distinct ids (05 R77), each with 3 merged origins and 24 actions (05 R78), 16 ring entries a duct (05 R76), 8
windows a valve (04 R54). -/
structure Bounds (s : State) : Prop where
  notices : s.lp.notices.length ≤ 64
  replies : s.lp.replies.length ≤ 4
  incidents : s.it.incidents.length ≤ 16
  ids : (s.it.incidents.map fun i => i.id).Nodup
  merged : ∀ i ∈ s.it.incidents, i.merged.length ≤ 3
  actions : ∀ i ∈ s.it.incidents, i.actions.length ≤ 24
  rings : ∀ e ∈ s.it.sparks, e.2.ring.length ≤ 16
  windows : ∀ e ∈ s.vg.valves, e.2.queue.length ≤ 8

/-- The limits of the sets, with what keeps each of them: a siren's demands are of incidents held, one each, at most 16 (08
R136); the auto-read pending set holds loop addresses, each once, at most 62 (02 R33); a walk's seen list holds detectors of
its duct, each once, at most 6, for a duct has no more (10 R167, 01 R12); a running test's answered set holds addresses, each
once (02 R35; that 0 and 63 may be among them is log 37); and the loop has at most 62 devices, of addresses 1 to 62 (01 R2,
R4). -/
structure SetBounds (s : State) : Prop where
  demands : ∀ n r, Table.get s.sc.sirens n = some r → r.demands.length ≤ 16 ∧ (r.demands.map fun d => d.incident).Nodup ∧
    ∀ d ∈ r.demands, ∃ i ∈ s.it.incidents, i.id = d.incident
  autoReads : s.lc.autoReads.length ≤ 62 ∧ s.lc.autoReads.Pairwise (· < ·) ∧ ∀ a ∈ s.lc.autoReads, 1 ≤ a ∧ a ≤ 62
  seen : ∀ d w, Table.get s.lc.walks d = some w → w.seen.length ≤ 6 ∧ w.seen.Pairwise (· < ·) ∧
    ∀ a ∈ w.seen, ∃ r, Table.get s.lc.roster a = some r ∧ r.kind ≠ .flow ∧ r.duct = d
  answered : ∀ target mask due window l, s.lc.slot = some (.test target mask due window l) →
    l.Pairwise (· < ·) ∧ ∀ a ∈ l, a ≤ 63
  detectors : ∀ d, (s.lc.roster.filter fun e => e.2.kind ≠ .flow ∧ e.2.duct = d).length ≤ 6
  roster : ∀ e ∈ s.lc.roster, 1 ≤ e.1 ∧ e.1 ≤ 62
  devices : s.tables.detectors.length + s.tables.flows.length ≤ 62
  addresses : (∀ e ∈ s.tables.detectors, 1 ≤ e.2.addr ∧ e.2.addr ≤ 62) ∧ ∀ e ∈ s.tables.flows, 1 ≤ e.2.addr ∧ e.2.addr ≤ 62

/-- The incident table is empty while the part is not in RUN (05 R77). -/
def OutsideRunEmpty (s : State) : Prop := s.lp.mode ≠ .run → s.it.incidents = []

/-- Each duct and each compartment is an origin of at most one incident, and only once (05 R79). -/
def OriginsDistinct (s : State) : Prop := ((s.it.incidents.flatMap originsOf).map fun o => o.id).Nodup

/-- The table of the selection (08 R137): the pattern, if any, that a siren's record selects. -/
structure Selects (r : Siren) (p : Option Pattern) : Prop where
  isolated : r.isolated = true → p = none
  evacuate : r.isolated = false → (∃ d ∈ r.demands, d.evacuate = true ∧ d.silenced = false) → p = some .evacuate
  alert : r.isolated = false → (∀ d ∈ r.demands, d.evacuate = true → d.silenced = true) →
    (∃ d ∈ r.demands, d.evacuate = false ∧ d.silenced = false) → p = some .alert
  test : r.isolated = false → (∀ d ∈ r.demands, d.silenced = true) → r.testDemand = true → p = some .test
  silent : r.isolated = false → (∀ d ∈ r.demands, d.silenced = true) → r.testDemand = false → p = none

/-- Each siren sounds the pattern that the table of the selection gives for its record (08 R137). -/
def SirensSelect (s : State) : Prop := ∀ n r, Table.get s.sc.sirens n = some r → Selects r r.sounding

/-- The blocks hold one record for each present entry of the committed model that they act on (01 R15, R16). -/
structure RecordsFollowModel (s : State) : Prop where
  roster : ∀ a, (∃ d, (a, d) ∈ s.lc.roster) ↔
    (∃ e ∈ s.model.detectors, e.2.addr = a) ∨ ∃ e ∈ s.model.flows, e.2.addr = a
  walks : s.lc.walks.map Prod.fst = s.model.ducts.map Prod.fst
  velocities : s.tc.map Prod.fst = s.model.ducts.map Prod.fst
  sparks : s.it.sparks.map Prod.fst = s.model.ducts.map Prod.fst
  valves : s.vg.valves.map Prod.fst = s.model.valves.map Prod.fst
  gates : s.vg.gates.map Prod.fst = s.model.gates.map Prod.fst
  groups : s.gs.map Prod.fst = s.model.groups.map Prod.fst
  walls : s.cc.walls.map Prod.fst = s.model.walls.map Prod.fst
  crossings : s.cc.crossings.map Prod.fst = s.model.crossings.map Prod.fst
  sirens : s.sc.sirens.map Prod.fst = s.model.sirens.map Prod.fst
  monitors : s.cm.map Prod.fst = s.model.monitors.map Prod.fst

/-- The entries of every table stand in rising order of their indices, each index once (01 Table 1.1). -/
structure TablesRise (m : MillModel) : Prop where
  ducts : Table.wf m.ducts = true
  detectors : Table.wf m.detectors = true
  flows : Table.wf m.flows = true
  valves : Table.wf m.valves = true
  gates : Table.wf m.gates = true
  groups : Table.wf m.groups = true
  compartments : Table.wf m.compartments = true
  walls : Table.wf m.walls = true
  crossings : Table.wf m.crossings = true
  sirens : Table.wf m.sirens = true
  patterns : Table.wf m.patterns = true
  monitors : Table.wf m.monitors = true
  debounce : Table.wf m.debounce = true

/-! ## Frames -/

/-- The parts of the state that a frame names. -/
inductive Block where
  | lp | tables | model | lc | tc | vg | it | gs | cc | sc | pi | cm
deriving DecidableEq, Repr

/-- Between two states part time and the queue are the same, and so is every block that a list does not name. The
lines are given by `LinesLaw`. -/
structure Frame (ch : List Block) (s t : State) : Prop where
  now : t.now = s.now
  pending : t.pending = s.pending
  lp : .lp ∉ ch → t.lp = s.lp
  tables : .tables ∉ ch → t.tables = s.tables
  model : .model ∉ ch → t.model = s.model
  lc : .lc ∉ ch → t.lc = s.lc
  tc : .tc ∉ ch → t.tc = s.tc
  vg : .vg ∉ ch → t.vg = s.vg
  it : .it ∉ ch → t.it = s.it
  gs : .gs ∉ ch → t.gs = s.gs
  cc : .cc ∉ ch → t.cc = s.cc
  sc : .sc ∉ ch → t.sc = s.sc
  pi : .pi ∉ ch → t.pi = s.pi
  cm : .cm ∉ ch → t.cm = s.cm

/-- Of LP's record, only the notice queue with its overrun flag and sequence number may differ: what the blocks'
reactions do to LP (11 R177). -/
structure Reports (s t : State) : Prop where
  mode : t.lp.mode = s.lp.mode
  linkTimeout : t.lp.linkTimeout = s.lp.linkTimeout
  attnThreshold : t.lp.attnThreshold = s.lp.attnThreshold
  errors : t.lp.errors = s.lp.errors
  hostLost : t.lp.hostLost = s.lp.hostLost
  hostLostExpiry : t.lp.hostLostExpiry = s.lp.hostLostExpiry
  replies : t.lp.replies = s.lp.replies
  receiver : t.lp.receiver = s.lp.receiver

/-- A state has the named parts as another has them. -/
structure Same (ch : List Block) (u t : State) : Prop where
  lp : .lp ∈ ch → t.lp = u.lp
  tables : .tables ∈ ch → t.tables = u.tables
  model : .model ∈ ch → t.model = u.model
  lc : .lc ∈ ch → t.lc = u.lc
  tc : .tc ∈ ch → t.tc = u.tc
  vg : .vg ∈ ch → t.vg = u.vg
  it : .it ∈ ch → t.it = u.it
  gs : .gs ∈ ch → t.gs = u.gs
  cc : .cc ∈ ch → t.cc = u.cc
  sc : .sc ∈ ch → t.sc = u.sc
  pi : .pi ∈ ch → t.pi = u.pi
  cm : .cm ∈ ch → t.cm = u.cm

/-- What a reaction of the blocks does to a state: it touches no block but those named, LP only by its notices, and it
keeps every limit. -/
structure Reacts (ch : List Block) (s t : State) : Prop where
  frame : Frame ch s t
  reports : Reports s t
  bounds : Bounds s → Bounds t

/-! ## Requests -/

/-- The command that carries a request (12 R182). -/
def command (k : ReqKind) (tag : Byte) (body : List Byte) : Instr :=
  match k with
  | .setup => .setup tag body
  | .load => .load tag body
  | .clearConfig => .clearConfig tag body
  | .commit => .commit tag body
  | .enterConfig => .enterConfig tag body
  | .queryDuct => .queryDuct tag body
  | .queryValve => .queryValve tag body
  | .queryIncident => .queryIncident tag body
  | .queryGroup => .queryGroup tag body
  | .queryWall => .queryWall tag body
  | .querySiren => .querySiren tag body
  | .queryLoop => .queryLoop tag body
  | .queryLink => .queryLink tag body
  | .fetch => .fetch tag body
  | .setClock => .setClock tag body
  | .ack => .ack tag body
  | .silence => .silence tag body
  | .resetIncident => .resetIncident tag body
  | .manualAlarm => .manualAlarm tag body
  | .releaseWall => .releaseWall tag body
  | .reholdWall => .reholdWall tag body
  | .restartGroup => .restartGroup tag body
  | .stopGroup => .stopGroup tag body
  | .testSirens => .testSirens tag body
  | .isolate => .isolate tag body
  | .restore => .restore tag body
  | .walkStart => .walkStart tag body
  | .walkEnd => .walkEnd tag body
  | .detectorTest => .detectorTest tag body
  | .readDetector => .readDetector tag body
  | .drivePoint => .drivePoint tag body
  | .clearValveFail => .clearValveFail tag body

/-- A request is judged by its owner: there is room for its reply, and the mode takes it (11 R172, R173). -/
structure Taken (k : ReqKind) (s : State) : Prop where
  room : s.lp.replies.length < 4
  mode : modeRefusal k s.lp.mode = none

/-- The kind code of a request as its frame and its reply carry it (12 R182). -/
def codeOf (k : ReqKind) : Byte := BitVec.ofNat 8 (kindCode k)

/-- A number of two bytes, most significant first (12 R182). -/
def wordOf (high low : Byte) : Nat := high.toNat * 256 + low.toNat

/-- LP's record once notices have been posted in turn on a state (11 R177). -/
def posted (l : List (NoticeClass × NoticeBody)) (s : State) : LinkPort :=
  (l.foldl (fun t n => postNotice n.1 n.2 t) s).lp

/-- The notice with which a valid frame clears a host-lost flag that is set (11 R180). -/
def foundNotice (s : State) : List (NoticeClass × NoticeBody) :=
  match s.lp.hostLost with
  | none => []
  | some since => [(.state, .hostLost (some since))]

/-- The host-lost expiry that a valid frame leaves, by the mode and the link timeout (11 R180). -/
def expiryAfterFrame (mode : Mode) (timeout : Nat) (now : PartTime) : Option PartTime :=
  if mode = .run ∧ timeout ≠ 0 then some (now + BitVec.ofNat 32 (timeout * 1000)) else none

/-- A reply: the request's kind code and tag as received, and the status (11 R172). -/
def replyOf (code tag : Byte) (status : ReplyStatus) : Reply := { kind := code, tag := tag, status := status }

/-- LP's record after a frame that was taken as a request: the reply stands at the end of the reply queue, the notices
have been posted in turn, the receiver hunts, the host is found (11 R171, R172, R177, R180). -/
structure Answered (code tag : Byte) (status : ReplyStatus) (notices : List (NoticeClass × NoticeBody)) (s t : State) :
    Prop where
  lp : t.lp = { posted (foundNotice s ++ notices) s with
    replies := s.lp.replies ++ [replyOf code tag status]
    receiver := .hunting
    hostLost := none
    hostLostExpiry := expiryAfterFrame s.lp.mode s.lp.linkTimeout s.now }

/-- As `Answered`, but for the notices posted, of which nothing is said. -/
structure Replied (code tag : Byte) (status : ReplyStatus) (s t : State) : Prop where
  replies : t.lp.replies = s.lp.replies ++ [replyOf code tag status]
  receiver : t.lp.receiver = .hunting
  hostLost : t.lp.hostLost = none
  hostLostExpiry : t.lp.hostLostExpiry = expiryAfterFrame s.lp.mode s.lp.linkTimeout s.now
  mode : t.lp.mode = s.lp.mode
  linkTimeout : t.lp.linkTimeout = s.lp.linkTimeout
  attnThreshold : t.lp.attnThreshold = s.lp.attnThreshold
  errors : t.lp.errors = s.lp.errors

/-- A request completes: `exec` answers a next state in which the request has this reply and has posted these notices,
no block but LP and those named is changed, and the named ones are as `post` says. -/
def Completes (k : ReqKind) (tag : Byte) (body : List Byte) (s : State) (status : ReplyStatus)
    (notices : List (NoticeClass × NoticeBody)) (ch : List Block) (post : State → Prop) : Prop :=
  ∃ t, exec (command k tag body) s = .next t ∧ Answered (codeOf k) tag status notices s t ∧ Frame (.lp :: ch) s t ∧
    post t

/-- The state on which a request is judged, as far as notices go: the host is found (11 R180). -/
def found (s : State) : State := { s with lp := posted (foundNotice s) s }

/-- A request completes by an operation on the blocks: the reply is given, no block but LP and those named is changed,
and the named ones and the notice queue are as the operation leaves them. -/
def CompletesBy (k : ReqKind) (tag : Byte) (body : List Byte) (s : State) (status : ReplyStatus) (ch : List Block)
    (op : State → State) : Prop :=
  ∃ t, exec (command k tag body) s = .next t ∧ Replied (codeOf k) tag status s t ∧ Frame (.lp :: ch) s t ∧
    Same ch (op (found s)) t ∧ t.lp.notices = (op (found s)).lp.notices ∧ t.lp.overrun = (op (found s)).lp.overrun ∧
    t.lp.nextSeq = (op (found s)).lp.nextSeq

/-- A request is refused: the reply says so, and nothing else is changed (11 R173). -/
def Refuses (k : ReqKind) (tag : Byte) (body : List Byte) (s : State) (code : RefusalCode) (why : Reason)
    (args : List Nat) : Prop :=
  Completes k tag body s (.refused code why args) [] [] fun _ => True

/-- An event completes: `exec` answers a next state in which no block but those named is changed, and those are as
`post` says. -/
def Happens (c : Instr) (s : State) (ch : List Block) (post : State → Prop) : Prop :=
  ∃ t, exec c s = .next t ∧ Frame ch s t ∧ post t

/-- Output points have taken levels in turn (09 R150), with the filter restarts their changes bring (09 R156): what
`writeOut` does to the image and to the monitor records, and nothing else to either. -/
structure Wrote (ws : List (Nat × Bool)) (s t : State) : Prop where
  image : t.pi = (ws.foldl (fun u w => writeOut w.1 w.2 u) s).pi
  monitors : t.cm = (ws.foldl (fun u w => writeOut w.1 w.2 u) s).cm

/-- An expiry is running and its time has come: it is not after now (00_scope.md 3.2). -/
def HasRunOut (e : Option PartTime) (now : PartTime) : Prop := ∃ x, e = some x ∧ ¬ 0 < (x - now).toInt

/-! ## Reading the tables -/

/-- The entry at an index of a table, whatever the table (01 Table 1.1). -/
def entryAt (m : MillModel) (t : TableId) (n : Nat) : Option Entry :=
  match t with
  | .duct => (Table.get m.ducts n).map .duct
  | .detector => (Table.get m.detectors n).map .detector
  | .flow => (Table.get m.flows n).map .flow
  | .valve => (Table.get m.valves n).map .valve
  | .gate => (Table.get m.gates n).map .gate
  | .group => (Table.get m.groups n).map .group
  | .compartment => (Table.get m.compartments n).map .compartment
  | .wall => (Table.get m.walls n).map .wall
  | .crossing => (Table.get m.crossings n).map .crossing
  | .siren => (Table.get m.sirens n).map .siren
  | .pattern => (Table.get m.patterns n).map .pattern
  | .plan => if n = 0 then m.plan.map .plan else none
  | .monitor => (Table.get m.monitors n).map .monitor
  | .debounce => (Table.get m.debounce n).map .debounce

/-! ## The fields of a LOAD, as 12 R182 lays them out -/

/-- The table an entry belongs to (01 Table 1.1). -/
def tableOf (e : Entry) : TableId :=
  match e with
  | .duct _ => .duct | .detector _ => .detector | .flow _ => .flow | .valve _ => .valve | .gate _ => .gate
  | .group _ => .group | .compartment _ => .compartment | .wall _ => .wall | .crossing _ => .crossing
  | .siren _ => .siren | .pattern _ => .pattern | .plan _ => .plan | .monitor _ => .monitor | .debounce _ => .debounce

/-- An integer of a range within 0 to 255: one byte. -/
def field1 (n : Nat) : List Byte := [BitVec.ofNat 8 n]

/-- An integer of a range within 0 to 65535: two bytes, most significant first. -/
def field2 (n : Nat) : List Byte := [BitVec.ofNat 8 (n / 256), BitVec.ofNat 8 n]

/-- An integer of a wider range: four bytes, most significant first. -/
def field4 (n : Nat) : List Byte :=
  [BitVec.ofNat 8 (n / 16777216), BitVec.ofNat 8 (n / 65536), BitVec.ofNat 8 (n / 256), BitVec.ofNat 8 n]

/-- Yes is 1 and no is 0. -/
def fieldYes (b : Bool) : List Byte := if b then [1#8] else [0#8]

/-- An enumeration of two values: the first listed is 0, the second 1; true stands for the first (log 10). -/
def fieldFirst (b : Bool) : List Byte := if b then [0#8] else [1#8]

/-- An optional index: 255 when absent. -/
def fieldIndex (o : Option Nat) : List Byte := field1 (o.getD 255)

/-- A list: a count byte followed by that many items. -/
def fieldList {α : Type} (item : α → List Byte) (l : List α) : List Byte := field1 l.length ++ l.flatMap item

/-- A step: its kind, then the fields of that kind in the order of the step table (01 R6). -/
def fieldStep (st : ListStep) : List Byte :=
  match st with
  | .drive p on => 0#8 :: (field1 p ++ fieldFirst on)
  | .await p made t => 1#8 :: (field1 p ++ fieldFirst made ++ field2 t)
  | .pause d => 2#8 :: field2 d
  | .fan run => 3#8 :: fieldFirst run
  | .infeed release => 4#8 :: fieldFirst (!release)

/-- The fields of an entry in the order of its field table (01 R3 to R10), each as R182 encodes it. -/
def fieldsOf (e : Entry) : List Byte :=
  match e with
  | .duct e => field1 e.group ++ field1 e.compartment ++ field1 e.infeedOut ++ fieldYes e.gatePresent ++
      field1 e.flowAddr ++ field2 e.vMin ++ field2 e.vMax ++ field1 e.tolerance ++ field1 e.shift ++
      field2 e.staleTime ++ field2 e.wMax ++ field4 e.quiet ++ field1 e.n1 ++ field2 e.s1 ++ field1 e.n2 ++
      field2 e.s2 ++ field2 e.escalation ++ fieldList field1 e.crossings
  | .detector e => field1 ((if e.dist.isSome then 1 else 0) + if e.gateDist.isSome then 2 else 0) ++
      field1 e.addr ++ field1 e.duct ++ fieldFirst (e.role == .upstream) ++ field2 (e.dist.getD 0) ++
      field2 (e.gateDist.getD 0)
  | .flow e => field1 e.addr ++ field1 e.duct ++ field2 e.period
  | .valve e => field1 e.output ++ field1 e.pressureIn ++ field2 e.lead ++ field2 e.afterRun ++ field2 e.settle ++
      field2 e.minOff ++ fieldIndex e.monitor
  | .gate e => field1 e.output ++ field1 e.positionIn ++ field2 e.travel
  | .group e => field1 e.fanOut ++ field1 e.fanIn ++ field1 e.fanTimeout ++
      fieldList (fun a => field1 a.output ++ fieldIndex a.feedback) e.aux ++ fieldList fieldStep e.shutdown ++
      fieldList fieldStep e.restart
  | .compartment e => field1 e.spanStart ++ field1 e.spanEnd ++ field1 e.margin
  | .wall e => field1 e.compA ++ field1 (e.compB.getD 8) ++ field1 e.warning ++ field1 e.holderOut ++
      field1 e.beaconOut ++ fieldIndex e.monitor ++ field1 e.doorTime ++ field1 e.damperTime ++ fieldList field1 e.doors
  | .crossing e => field1 e.duct ++ field1 e.wall ++ field1 e.holdOut ++ field1 e.closedIn
  | .siren e => field1 e.sector ++ field1 e.output ++ fieldIndex e.monitor
  | .pattern e => field2 e.onTime ++ field2 e.offTime
  | .plan e => field1 e.weekdays.toNat ++ field1 e.hour ++ field1 e.minute ++ field1 e.duration ++ fieldYes e.enabled
  | .monitor e => field1 e.channel ++ field2 e.offLow ++ field2 e.offHigh ++ field2 e.onLow ++ field2 e.onHigh ++
      field1 e.filter ++ field2 e.blanking
  | .debounce time => field1 time

/-! ## The checks of COMMIT, as their rules state them (01 R11-R14) -/

/-- An optional reference names a present entry, or is not given. -/
def NamesPresent {α : Type} (t : Table α) (o : Option Nat) : Prop := ∀ n, o = some n → Table.get t n ≠ none

/-- REFERENCE (01 R11). -/
structure ReferenceHolds (m : MillModel) : Prop where
  someDuct : m.ducts ≠ []
  ducts : ∀ n e, (n, e) ∈ m.ducts → Table.get m.groups e.group ≠ none ∧ Table.get m.compartments e.compartment ≠ none ∧
    Table.get m.valves n ≠ none ∧ (e.gatePresent = true → Table.get m.gates n ≠ none) ∧
    ∀ w ∈ e.crossings, Table.get m.walls w ≠ none ∧ ∃ c ∈ m.crossings, c.2.duct = n ∧ c.2.wall = w
  detectors : ∀ n e, (n, e) ∈ m.detectors → Table.get m.ducts e.duct ≠ none
  flows : ∀ n e, (n, e) ∈ m.flows → Table.get m.ducts e.duct ≠ none
  valves : ∀ n e, (n, e) ∈ m.valves → Table.get m.ducts n ≠ none ∧ NamesPresent m.monitors e.monitor
  gates : ∀ n e, (n, e) ∈ m.gates → ∃ d, Table.get m.ducts n = some d ∧ d.gatePresent = true
  walls : ∀ n e, (n, e) ∈ m.walls → Table.get m.compartments e.compA ≠ none ∧ NamesPresent m.compartments e.compB ∧
    NamesPresent m.monitors e.monitor
  crossings : ∀ n e, (n, e) ∈ m.crossings → Table.get m.walls e.wall ≠ none ∧
    (∃ d, Table.get m.ducts e.duct = some d ∧ e.wall ∈ d.crossings) ∧
    ∀ c ∈ m.crossings, c.1 < n → ¬ (c.2.duct = e.duct ∧ c.2.wall = e.wall)
  sirens : ∀ n e, (n, e) ∈ m.sirens → NamesPresent m.monitors e.monitor
  patterns : ∀ k, k < 3 → Table.get m.patterns k ≠ none

/-- ADDRESS (01 R12): no loop address is held twice. -/
def AddressHolds (m : MillModel) : Prop :=
  ((m.detectors.map fun e => e.2.addr) ++ m.flows.map fun e => e.2.addr).Nodup

/-- OUTPUT (01 R12): no output point is claimed twice. -/
def OutputHolds (m : MillModel) : Prop :=
  ((m.ducts.map fun e => e.2.infeedOut) ++ (m.valves.map fun e => e.2.output) ++ (m.gates.map fun e => e.2.output) ++
    (m.groups.flatMap fun e => e.2.fanOut :: e.2.aux.map fun a => a.output) ++
    (m.walls.flatMap fun e => [e.2.holderOut, e.2.beaconOut]) ++ (m.crossings.map fun e => e.2.holdOut) ++
    m.sirens.map fun e => e.2.output).Nodup

/-- DEVICES (01 R12). -/
def DevicesHold (m : MillModel) : Prop :=
  ∀ n e, (n, e) ∈ m.ducts →
    (1 ≤ (m.detectors.filter fun x => x.2.duct = n ∧ x.2.role = .upstream).length ∧
      (m.detectors.filter fun x => x.2.duct = n ∧ x.2.role = .upstream).length ≤ 4) ∧
    (m.detectors.filter fun x => x.2.duct = n ∧ x.2.role = .downstream).length ≤ 2 ∧
    ∃ f, (m.flows.filter fun x => x.2.duct = n) = [f] ∧ f.2.addr = e.flowAddr

/-- GATE-DISTANCE (01 R13). -/
def GateDistanceHolds (m : MillModel) : Prop :=
  ∀ n e d, (n, e) ∈ m.detectors → Table.get m.ducts e.duct = some d → (d.gatePresent = true ↔ e.gateDist ≠ none)

/-- TRANSIT (01 R13): ceil(d × 1000 / v_min) does not exceed W_max. -/
def TransitHolds (m : MillModel) : Prop :=
  ∀ n e d x, (n, e) ∈ m.detectors → e.role = .upstream → Table.get m.ducts e.duct = some d → e.dist = some x →
    ceilDiv (x * 1000) d.vMin ≤ d.wMax

/-- The monitors that valve, wall and siren entries name, in scan order (01 R14). -/
def monitorsNamed (m : MillModel) : List Nat :=
  (m.valves.filterMap fun e => e.2.monitor) ++ (m.walls.filterMap fun e => e.2.monitor) ++
    m.sirens.filterMap fun e => e.2.monitor

/-- USE (01 R14). -/
structure UseHolds (m : MillModel) : Prop where
  once : (monitorsNamed m).Nodup
  named : ∀ n e, (n, e) ∈ m.monitors → n ∈ monitorsNamed m
  channels : ∀ n e k x, (n, e) ∈ m.monitors → (k, x) ∈ m.monitors → k < n → x.channel ≠ e.channel
  drives : ∀ g e p on, (g, e) ∈ m.groups → .drive p on ∈ e.shutdown ++ e.restart → ∃ a ∈ e.aux, a.output = p
  awaits : ∀ g e p made time, (g, e) ∈ m.groups → .await p made time ∈ e.shutdown ++ e.restart →
    p = e.fanIn ∨ ∃ a ∈ e.aux, a.feedback = some p

/-- The loop addresses held, in scan order: table, entry, field and address (01 R12). -/
def addressesHeld (m : MillModel) : List (Nat × Nat × Nat × Nat) :=
  (m.detectors.map fun e => (1, e.1, 0, e.2.addr)) ++ m.flows.map fun e => (2, e.1, 0, e.2.addr)

/-- The output points claimed, in scan order: table, entry, field and point (01 R12). -/
def outputsClaimed (m : MillModel) : List (Nat × Nat × Nat × Nat) :=
  (m.ducts.map fun e => (0, e.1, 2, e.2.infeedOut)) ++ (m.valves.map fun e => (3, e.1, 0, e.2.output)) ++
    (m.gates.map fun e => (4, e.1, 0, e.2.output)) ++
    (m.groups.flatMap fun e => (5, e.1, 0, e.2.fanOut) :: e.2.aux.map fun a => (5, e.1, 3, a.output)) ++
    (m.walls.flatMap fun e => [(7, e.1, 3, e.2.holderOut), (7, e.1, 4, e.2.beaconOut)]) ++
    (m.crossings.map fun e => (8, e.1, 2, e.2.holdOut)) ++ m.sirens.map fun e => (9, e.1, 1, e.2.output)

/-- The monitors named, in scan order: table, entry, field and monitor (01 R14). -/
def monitorsClaimed (m : MillModel) : List (Nat × Nat × Nat × Nat) :=
  (m.valves.filterMap fun e => e.2.monitor.map fun k => (3, e.1, 6, k)) ++
    (m.walls.filterMap fun e => e.2.monitor.map fun k => (7, e.1, 5, k)) ++
    m.sirens.filterMap fun e => e.2.monitor.map fun k => (9, e.1, 2, k)

/-- A member of a list claims a number that one before it has claimed. -/
def ClaimsAgain (l : List (Nat × Nat × Nat × Nat)) (x : Nat × Nat × Nat × Nat) : Prop :=
  ∃ before after, l = before ++ x :: after ∧ ∃ y ∈ before, y.2.2.2 = x.2.2.2

/-- A step names a point that is none of its own group's (01 R14). -/
def ForeignPoint (e : GroupEntry) (st : ListStep) : Prop :=
  (∃ p on, st = .drive p on ∧ ∀ a ∈ e.aux, a.output ≠ p) ∨
    ∃ p made t, st = .await p made t ∧ p ≠ e.fanIn ∧ ∀ a ∈ e.aux, a.feedback ≠ some p

/-- `FailsAt m check table entry rank field step`: an entry fails a check, at a field and a step or 255 for none (12 R182;
which field is named is log 14). The rank is the place, within the entry, at which the scan finds it. One constructor for
each failure that 01 R11 to R14 list. -/
inductive FailsAt (m : MillModel) : Nat → Nat → Nat → List Nat → Nat → Nat → Prop where
  | noDuct : m.ducts = [] → FailsAt m 0 0 0 [] 255 255
  | ductGroup {n e} : (n, e) ∈ m.ducts → Table.get m.groups e.group = none → FailsAt m 0 0 n [0] 0 255
  | ductCompartment {n e} : (n, e) ∈ m.ducts → Table.get m.compartments e.compartment = none →
      FailsAt m 0 0 n [1] 1 255
  | ductValve {n e} : (n, e) ∈ m.ducts → Table.get m.valves n = none → FailsAt m 0 0 n [2] 255 255
  | ductGate {n e} : (n, e) ∈ m.ducts → e.gatePresent = true → Table.get m.gates n = none → FailsAt m 0 0 n [3] 3 255
  | ductWall {n e w} : (n, e) ∈ m.ducts → w ∈ e.crossings → Table.get m.walls w = none → FailsAt m 0 0 n [15] 15 255
  | ductCrossing {n e w} : (n, e) ∈ m.ducts → w ∈ e.crossings →
      (∀ c ∈ m.crossings, ¬ (c.2.duct = n ∧ c.2.wall = w)) → FailsAt m 0 0 n [15] 15 255
  | detectorDuct {n e} : (n, e) ∈ m.detectors → Table.get m.ducts e.duct = none → FailsAt m 0 1 n [1] 1 255
  | flowDuct {n e} : (n, e) ∈ m.flows → Table.get m.ducts e.duct = none → FailsAt m 0 2 n [1] 1 255
  | valveDuct {n e} : (n, e) ∈ m.valves → Table.get m.ducts n = none → FailsAt m 0 3 n [0] 255 255
  | valveMonitor {n e k} : (n, e) ∈ m.valves → e.monitor = some k → Table.get m.monitors k = none →
      FailsAt m 0 3 n [6] 6 255
  | gateDuct {n e} : (n, e) ∈ m.gates → (∀ d, Table.get m.ducts n = some d → d.gatePresent = false) →
      FailsAt m 0 4 n [0] 255 255
  | wallSideA {n e} : (n, e) ∈ m.walls → Table.get m.compartments e.compA = none → FailsAt m 0 7 n [0] 0 255
  | wallSideB {n e c} : (n, e) ∈ m.walls → e.compB = some c → Table.get m.compartments c = none →
      FailsAt m 0 7 n [1] 1 255
  | wallMonitor {n e k} : (n, e) ∈ m.walls → e.monitor = some k → Table.get m.monitors k = none →
      FailsAt m 0 7 n [5] 5 255
  | crossingDuct {n e} : (n, e) ∈ m.crossings → Table.get m.ducts e.duct = none → FailsAt m 0 8 n [0] 0 255
  | crossingWall {n e} : (n, e) ∈ m.crossings → Table.get m.walls e.wall = none → FailsAt m 0 8 n [1] 1 255
  | crossingUnlisted {n e} : (n, e) ∈ m.crossings →
      (∀ d, Table.get m.ducts e.duct = some d → e.wall ∉ d.crossings) → FailsAt m 0 8 n [1] 1 255
  | crossingTwice {n e c} : (n, e) ∈ m.crossings → c ∈ m.crossings → c.1 < n → c.2.duct = e.duct →
      c.2.wall = e.wall → FailsAt m 0 8 n [2] 255 255
  | sirenMonitor {n e k} : (n, e) ∈ m.sirens → e.monitor = some k → Table.get m.monitors k = none →
      FailsAt m 0 9 n [2] 2 255
  | patternAbsent {k} : k < 3 → Table.get m.patterns k = none → FailsAt m 0 10 k [] 255 255
  | address {t n f x} : ClaimsAgain (addressesHeld m) (t, n, f, x) → FailsAt m 1 t n [f] f 255
  | output {t n f x} : ClaimsAgain (outputsClaimed m) (t, n, f, x) → FailsAt m 2 t n [f] f 255
  | upstreamCount {n e} : (n, e) ∈ m.ducts →
      ¬ (1 ≤ (m.detectors.filter fun x => x.2.duct = n ∧ x.2.role = .upstream).length ∧
        (m.detectors.filter fun x => x.2.duct = n ∧ x.2.role = .upstream).length ≤ 4) → FailsAt m 3 0 n [0] 255 255
  | downstreamCount {n e} : (n, e) ∈ m.ducts →
      2 < (m.detectors.filter fun x => x.2.duct = n ∧ x.2.role = .downstream).length → FailsAt m 3 0 n [1] 255 255
  | flowCount {n e} : (n, e) ∈ m.ducts → (m.flows.filter fun x => x.2.duct = n).length ≠ 1 →
      FailsAt m 3 0 n [2] 255 255
  | flowAddress {n e f} : (n, e) ∈ m.ducts → (m.flows.filter fun x => x.2.duct = n) = [f] → f.2.addr ≠ e.flowAddr →
      FailsAt m 3 0 n [3] 4 255
  | gateDistance {n e d} : (n, e) ∈ m.detectors → Table.get m.ducts e.duct = some d →
      ¬ (d.gatePresent = true ↔ e.gateDist ≠ none) → FailsAt m 4 1 n [] 4 255
  | transit {n e d x} : (n, e) ∈ m.detectors → e.role = .upstream → Table.get m.ducts e.duct = some d →
      e.dist = some x → d.wMax < ceilDiv (x * 1000) d.vMin → FailsAt m 5 1 n [] 3 255
  | monitorAgain {t n f k} : ClaimsAgain (monitorsClaimed m) (t, n, f, k) → FailsAt m 6 t n [f] f 255
  | shutdownStep {g e k st} : (g, e) ∈ m.groups → e.shutdown[k]? = some st → ForeignPoint e st →
      FailsAt m 6 5 g [4, k + 1] 4 (k + 1)
  | restartStep {g e k st} : (g, e) ∈ m.groups → e.restart[k]? = some st → ForeignPoint e st →
      FailsAt m 6 5 g [5, k + 1] 5 (k + 1)
  | monitorUnnamed {n e} : (n, e) ∈ m.monitors → n ∉ monitorsNamed m → FailsAt m 6 12 n [0] 255 255
  | channelAgain {n e k x} : (n, e) ∈ m.monitors → (k, x) ∈ m.monitors → k < n → x.channel = e.channel →
      FailsAt m 6 12 n [1] 0 255

/-- The seven checks in their order, numbered from 0 (01 R11, 12 R182). -/
def CheckHolds (m : MillModel) (check : Nat) : Prop :=
  match check with
  | 0 => ReferenceHolds m
  | 1 => AddressHolds m
  | 2 => OutputHolds m
  | 3 => DevicesHold m
  | 4 => GateDistanceHolds m
  | 5 => TransitHolds m
  | 6 => UseHolds m
  | _ => True

/-- The notice of a host READ-STATUS that stands in the slot when COMMIT or the loop's fall ends it (02 R34). -/
def unansweredRead (s : State) : List (NoticeClass × NoticeBody) :=
  match s.lc.slot with
  | some (.read a false _ _ _) => [(.state, .status a false none)]
  | _ => []

/-! ## Windows (04 R56-R58) -/

/-- One window lies inside another, both read from a base time before them (04 R56). -/
def insideWindow (base : PartTime) (w x : Window) : Prop :=
  (x.openAt - base).toNat ≤ (w.openAt - base).toNat ∧ (w.closeAt - base).toNat ≤ (x.closeAt - base).toNat

/-- A window opens no later than it closes, and lies within 2^30 ms after a base time: the range over which part times
compare exactly (00_scope.md 3.2). -/
def inRange (base : PartTime) (w : Window) : Prop :=
  (w.openAt - base).toNat ≤ (w.closeAt - base).toNat ∧ (w.closeAt - base).toNat < 2 ^ 30

/-- The law of a window queue whose minimum off-time is m, read from a base time before its windows (04 R57): at most 8
windows, in order of open time, each opening more than m after the one before it closes. -/
structure QueueLaw (base : PartTime) (m : Nat) (q : List Window) : Prop where
  room : q.length ≤ 8
  range : ∀ x ∈ q, inRange base x
  apart : q.Pairwise fun x y => (x.closeAt - base).toNat + m < (y.openAt - base).toNat

/-- The entries that bound a transit and its window have passed LOAD's checks (01 R2). -/
structure EntriesAccepted (m : MillModel) : Prop where
  ducts : ∀ e ∈ m.ducts, entryError (.duct e.2) = none
  detectors : ∀ e ∈ m.detectors, entryError (.detector e.2) = none
  valves : ∀ e ∈ m.valves, entryError (.valve e.2) = none

/-- The windows of every valve's queue, read from a base time before them, keep the law of 04 R57; with what keeps every
window that a spark brings in range: entries that LOAD accepted, and a CONVEYING duct's velocity not below v_min (03
R40). -/
structure QueuesLaw (base : PartTime) (s : State) : Prop where
  queues : ∀ d v e, Table.get s.vg.valves d = some v → Table.get s.model.valves d = some e →
    QueueLaw base e.minOff v.queue
  velocities : ∀ d v e, Table.get s.tc d = some v → Table.get s.model.ducts d = some e → v.state = .conveying →
    e.vMin ≤ v.vf.getD 0
  tables : EntriesAccepted s.tables
  model : EntriesAccepted s.model

/-- A valve's record once its head window is opened at a part time, by whether its pressure input is made (04 R60,
R61). -/
def headOpened (now : PartTime) (made : Bool) (e : ValveEntry) (h : Window) (v : Valve) : Valve :=
  { v with
    state := if made then .flowing else .opening
    flowed := made
    settleRan := false
    failed := !made && v.failed
    openExpiry := none
    closeExpiry := some h.closeAt
    settleExpiry := if made then none else some (now + BitVec.ofNat 32 e.settle) }

/-- The notice of a head opened onto water: a failed valve is restored (04 R61). -/
def openedNotices (d : Nat) (made : Bool) (v : Valve) : List (NoticeClass × NoticeBody) :=
  if made = true ∧ v.failed = true then [(.state, .valveRestored d)] else []

/-- A gate's record becomes `new`, with these writes of output points and these notices; no other gate, no valve and no
other block is changed (04 R70). -/
structure GateTakes (d : Nat) (new : Gate) (ws : List (Nat × Bool)) (notices : List (NoticeClass × NoticeBody))
    (s t : State) : Prop where
  frame : Frame [.lp, .vg, .pi, .cm] s t
  gate : Table.get t.vg.gates d = some new
  others : ∀ x, x ≠ d → Table.get t.vg.gates x = Table.get s.vg.gates x
  valves : t.vg.valves = s.vg.valves
  wrote : Wrote ws s t
  lp : t.lp = posted notices s

/-- VG has reported the result of a gate's pending divert (04 R73, R74; 05 R89): in the incident that it was pending for,
the PENDING DIVERT entry of the duct holds the result. -/
def divertReported (d : Nat) (pending : Option Nat) (result : ActionResult) (s : State) : State := { s with it := { s.it with
  incidents := s.it.incidents.map fun i => if pending = some i.id
    then { i with actions := i.actions.map fun a =>
      if a.kind = .divert ∧ a.target = d ∧ a.result = .pending then { a with result := result } else a } else i } }

/-! ## Groups and walls (Chapters 6 and 7) -/

/-- A group's record holds together (06 R99, R102, R110): the runner is present while the group is moving, on the list of
its state, with its step expiry running; a priority is held while it is STOPPING; no list of an isolated group runs. -/
structure GroupHolds (r : Group) : Prop where
  moving : r.runner ≠ none ↔ r.state = .stopping ∨ r.state = .starting
  list : ∀ x, r.runner = some x → (x.list = .shutdown ↔ r.state = .stopping) ∧ 1 ≤ x.step ∧ x.expiry ≠ none
  priority : r.priority ≠ none ↔ r.state = .stopping
  isolated : r.isolated = true → r.state = .running ∨ r.state = .stopped

/-- Every group's record holds together. The tables the records are built from keep their canonical form, so that a group
has one record. -/
structure GroupsLaw (s : State) : Prop where
  tables : Table.wf s.tables.groups = true
  records : Table.wf s.gs = true
  holds : ∀ g r, (g, r) ∈ s.gs → GroupHolds r

/-- The first incident, in the table's order, at level 3 of which a duct is an origin duct (06 R113). -/
def FirstOnDuct (s : State) (d : Nat) (i : Incident) : Prop :=
  ∃ before after, s.it.incidents = before ++ i :: after ∧ i.level = 3 ∧ d ∈ originDucts i ∧
    ∀ j ∈ before, ¬ (j.level = 3 ∧ d ∈ originDucts j)

/-- No incident at level 3 has the duct as an origin duct. -/
def ClearOnDuct (s : State) (d : Nat) : Prop := ∀ j ∈ s.it.incidents, ¬ (j.level = 3 ∧ d ∈ originDucts j)

/-- The first incident, in the table's order, at level 3 of which a compartment is an origin compartment (07 R129). -/
def FirstOver (s : State) (c : Nat) (i : Incident) : Prop :=
  ∃ before after, s.it.incidents = before ++ i :: after ∧ i.level = 3 ∧ c ∈ originCompartments s.model i ∧
    ∀ j ∈ before, ¬ (j.level = 3 ∧ c ∈ originCompartments s.model j)

/-- No incident at level 3 has the compartment as an origin compartment. -/
def ClearOver (s : State) (c : Nat) : Prop :=
  ∀ j ∈ s.it.incidents, ¬ (j.level = 3 ∧ c ∈ originCompartments s.model j)

/-- The law of the groups (06 R100): in RUN, a group that is not isolated is RUNNING or STARTING only if none of its ducts is
an origin of a level-3 incident and no wall that a crossing of its ducts names is RELEASED. -/
def GroupsInterlocked (s : State) : Prop :=
  s.lp.mode = .run → ∀ g r, Table.get s.gs g = some r → r.isolated = false → r.state = .running ∨ r.state = .starting →
    ∀ d e, Table.get s.model.ducts d = some e → e.group = g → ClearOnDuct s d ∧
      ∀ c ∈ s.model.crossings, c.2.duct = d → ∀ w, Table.get s.cc.walls c.2.wall = some w → w.state ≠ .released

/-- The law of the walls (07 R128): in RUN, a wall that is not isolated is NORMAL only if neither compartment it adjoins is
an origin compartment of a level-3 incident. -/
def WallsInterlocked (s : State) : Prop :=
  s.lp.mode = .run → ∀ w r e, Table.get s.cc.walls w = some r → Table.get s.model.walls w = some e → r.isolated = false →
    r.state = .normal → ClearOver s e.compA ∧ ∀ c, e.compB = some c → ClearOver s c

/-- A SHUTDOWN or RELEASE entry stands only in an incident at level 3, for the group of an origin duct, or for a wall that
adjoins an origin compartment (05 R88, R89). -/
def DemandsHaveOrigins (s : State) : Prop :=
  ∀ i ∈ s.it.incidents, ∀ a ∈ i.actions,
    (a.kind = .shutdown → i.level = 3 ∧ ∃ d ∈ originDucts i, ∃ e, Table.get s.model.ducts d = some e ∧ e.group = a.target) ∧
    (a.kind = .release → i.level = 3 ∧ ∃ e, Table.get s.model.walls a.target = some e ∧
      ∃ c ∈ originCompartments s.model i, e.compA = c ∨ e.compB = some c)

/-- What the laws of the groups and of the walls stand on: limits and distinct ids, an empty table outside RUN, one record
for each entry of a model in its order, group records that hold together, and demands with origins. Each is kept by every
step, as a statement of its own says. -/
structure Grounded (s : State) : Prop where
  bounds : Bounds s
  outside : OutsideRunEmpty s
  records : RecordsFollowModel s
  rises : TablesRise s.model
  groups : GroupsLaw s
  demands : DemandsHaveOrigins s

/-- A step drives outputs and reads nothing: DRIVE or INFEED (06 R103). -/
def Drives (st : ListStep) : Prop := (∃ p on, st = .drive p on) ∨ ∃ release, st = .infeed release

/-- A step completes in the event that begins it (06 R103 to R106): DRIVE and INFEED; AWAIT and FAN whose input is at its
level; PAUSE of 0, or hurried by an IMMEDIATE shutdown. -/
def PassesAtOnce (s : State) (e : GroupEntry) (hurried : Prop) (st : ListStep) : Prop :=
  Drives st ∨ (∃ p made time, st = .await p made time ∧ inputMade s p = made) ∨
    (∃ run, st = .fan run ∧ inputMade s e.fanIn = run) ∨ ∃ time, st = .pause time ∧ (time = 0 ∨ hurried)

/-- The levels that the steps of a group write, in order (06 R103, R106). -/
def writesOf (m : MillModel) (g : Nat) (e : GroupEntry) (steps : List ListStep) : List (Nat × Bool) :=
  steps.flatMap fun st => match st with
    | .drive p on => [(p, on)]
    | .infeed release => (m.ducts.filter fun e => e.2.group = g).map fun e => (e.2.infeedOut, release)
    | .fan run => [(e.fanOut, run)]
    | _ => []

/-- The fan-proven flag after steps that have completed (06 R106): set by FAN RUN, cleared by FAN STOP. -/
def provenAfter (steps : List ListStep) (proven : Bool) : Bool :=
  steps.foldl (fun b st => match st with
    | .fan run => run
    | _ => b) proven

/-- A group's record becomes `new`, with these writes of output points and these notices; no other group and no other
block is changed. -/
structure GroupTakes (g : Nat) (new : Group) (ws : List (Nat × Bool)) (notices : List (NoticeClass × NoticeBody))
    (s t : State) : Prop where
  frame : Frame [.lp, .gs, .pi, .cm] s t
  group : Table.get t.gs g = some new
  others : ∀ x, x ≠ g → Table.get t.gs x = Table.get s.gs x
  wrote : Wrote ws s t
  lp : t.lp = posted notices s

/-- The walls that the crossings of a group's ducts name, in crossing order (06 R113). -/
def wallsCrossed (m : MillModel) (g : Nat) : List Nat :=
  (m.crossings.filter fun c => (Table.get m.ducts c.2.duct).any fun d => d.group = g).map fun c => c.2.wall

/-- The groups with a duct that a crossing of a wall names, in group order (07 R123). -/
def groupsOfWall (m : MillModel) (w : Nat) : List Nat :=
  (m.groups.map fun e => e.1).filter fun g =>
    m.crossings.any fun c => c.2.wall = w && (Table.get m.ducts c.2.duct).any fun d => d.group = g

/-- The incident into which a full table without a level-1 incident merges a new origin (05 R97): of those with room,
and of those sharing a compartment with the origin if any does, the highest level, the oldest of those. -/
def MergedInto (s : State) (o : OriginId) (i : Incident) : Prop :=
  let sharing (j : Incident) : Prop := ∃ c, compartmentOf s.model o = some c ∧ c ∈ originCompartments s.model j
  let candidate (j : Incident) : Prop := j.merged.length < 3 ∧
    (sharing j ∨ ∀ x ∈ s.it.incidents, x.merged.length < 3 → ¬ sharing x)
  ∃ before after, s.it.incidents = before ++ i :: after ∧ candidate i ∧
    (∀ j ∈ before, candidate j → j.level < i.level) ∧ ∀ j ∈ after, candidate j → j.level ≤ i.level

/-- The unacked expiry that starts for an incident of a primary origin (05 R92): the escalation time of its duct from now,
or none where that time is 0, or the origin is no duct. -/
def Starts (s : State) (o : OriginId) (x : Option PartTime) : Prop :=
  (∀ d e, o = .duct d → Table.get s.model.ducts d = some e →
    x = if e.escalation = 0 then none else some (s.now + BitVec.ofNat 32 (e.escalation * 1000))) ∧
  ((∀ d e, o = .duct d → Table.get s.model.ducts d ≠ some e) → x = none)

/-- The part of a pass that takes a changed point whose debounce time is 0 (09 R153): the level becomes the debounced one
and is handed on, unless the point passes from unknown to not made. -/
def takesAtOnce (levels : Levels) (s : State) (p : Nat) : State :=
  let made := levelOf levels p
  let u : State := { s with pi := { s.pi with debounced := Table.put s.pi.debounced p made } }
  if Table.get s.pi.debounced p = none ∧ made = false then u
  else handDampers p made (handDoors p made (handGroups p made (handGates p made (handValves p made u))))

/-- IT has recorded an accepted spark of a duct in the incident with an id (05 R80, R76): an UPSTREAM spark's detection time
joins the ring, the total goes on or wraps with COUNTER-WRAP, and the incident and the duct's origin record take it. -/
def sparkRecorded (id d addr : Nat) (role : Role) (t0 : PartTime) (marginal : Bool) (s : State) : State :=
  let wraps : Bool := (Table.get s.it.sparks d).any fun r => decide (65535 ≤ r.total)
  let u : State := if wraps then postNotice .state (.counterWrap d) s else s
  let takes (o : Origin) : Origin :=
    if o.id = .duct d then { o with lastSpark := some s.now, held := false, source := some (addr, t0) } else o
  { u with it := { u.it with
    sparks := Table.modify u.it.sparks d fun r => {
      ring := if role = .upstream then (if 16 ≤ r.ring.length then r.ring.tail else r.ring) ++ [t0] else r.ring
      total := if wraps then 0 else r.total + 1
      wrapped := r.wrapped || wraps }
    incidents := u.it.incidents.map fun i => if i.id = id then { i with
      sparks := min (i.sparks + 1) 65535, lastSpark := some s.now, primary := takes i.primary
      merged := i.merged.map takes, flags := { i.flags with marginal := i.flags.marginal || marginal } } else i } }

/-! ## The loop -/

/-- No automatic read waits to enter the command slot (02 R33): the slot is taken, or the pending set is empty. -/
def NoReadWaits (s : State) : Prop := s.lc.slot ≠ none ∨ s.lc.autoReads = []

/-- The pending set of automatic reads holds its addresses in rising order, each once (02 R33): its first is its lowest. -/
def AutoReadsRise (s : State) : Prop := s.lc.autoReads.Pairwise (· < ·)

/-- The command slot of a loop that is UP, once an automatic read has entered it where it can (02 R33): a command that holds
the slot stays, and into an empty one goes a READ-STATUS for the first address that waits, timed from now. -/
def issued (now : PartTime) (slot : Option LoopCommand) (waiting : List Nat) : Option LoopCommand :=
  slot.or (waiting.head?.map fun a => .read a true 1 true (now + 20#32))

/-- LC has taken the poll answer of a flow sensor with the loop UP (02 R23, R29, R33): the record takes its state, the
silence expiry starts anew, the answer slot closes, a read that waits enters an empty command slot, and nothing else of LC moves. -/
structure FlowAnswered (a : Nat) (r : Device) (state : DeviceState) (s t : State) : Prop where
  lc : t.lc = { s.lc with
    silence := some (s.now + 1000#32)
    answerSlot := s.lc.answerSlot.filter fun b => b ≠ a
    slot := issued s.now s.lc.slot s.lc.autoReads
    roster := t.lc.roster }
  record : Table.get t.lc.roster a = some { r with misses := 0, state := state }
  others : ∀ b, b ≠ a → Table.get t.lc.roster b = Table.get s.lc.roster b

/-- The notices of a device record's change of state (02 R23), and of the blindness of its duct as it was and is (02
R31). -/
def stateNotices (addr : Nat) (r : Device) (new : DeviceState) (was now : Bool) : List (NoticeClass × NoticeBody) :=
  if r.state = new then []
  else
    (if new = .missing then .fault else .state, .deviceState addr r.state new) ::
      if r.kind = .detector .upstream ∧ was ≠ now then [(if was then .state else .fault, .ductBlind r.duct was)] else []

end Sys2Proof.Machine
end

