-- ==== Sys2Proof/Certificates/Slice0/Obligations.lean ====
section
/-! DEFINITION. The statements for the provers. Each names the rule of spec/ that it formalises; where a clause rests on
a choice of the model, its docstring names the log entry. -/

open Sys2Proof Sys2Proof.Machine

/-! ## The queue, the step and the whole machine -/

/-- A step takes the command at the front of the queue, on the state with the queue's rest (the model's queue, log 1). -/
def Obligations.StepTakesTheFrontCommand : Prop :=
  ∀ (c : Instr) (rest : List Instr) (s : State), s.pending = c :: rest → step s = exec c { s with pending := rest }

/-- The model's choice of logs 2 and 3: a step on an empty queue lets 1 ms of part time pass, changes nothing else, and
queues each event just when it has come due: the loop's frame slot while the loop is UP, an answer slot that has stayed
empty, and every expiry that has run out. No request is queued. -/
def Obligations.IdleStepIsOneMillisecond : Prop :=
  ∀ s : State, s.pending = [] →
    ∃ t, step s = .next t ∧ t.now = s.now + 1#32 ∧ { t with now := s.now, pending := [] } = s ∧
      ((∀ d, .sparkRingEntryAged d ∈ t.pending ↔
          ∃ r, (d, r) ∈ s.it.sparks ∧ ∃ t0 ∈ r.ring, 60000 < (t.now - t0).toInt) ∧
        (∀ d, .lastSparkHeld d ∈ t.pending ↔ ∃ i ∈ s.it.incidents, ∃ o ∈ originsOf i, o.id = .duct d ∧ o.held = false ∧
          ∃ x, o.lastSpark = some x ∧ 600000 ≤ (t.now - x).toInt) ∧
        (.clockAdvance ∈ t.pending ↔ HasRunOut (some s.sc.nextAdvance) t.now) ∧
        (.hostLostExpiry ∈ t.pending ↔ HasRunOut s.lp.hostLostExpiry t.now) ∧
        (.linkByteGapTimeout ∈ t.pending ↔ ∃ last, 20 < (t.now - last).toInt ∧
          (s.lp.receiver = .awaitLength last ∨ ∃ n bytes rest, s.lp.receiver = .inFrame n bytes rest last))) ∧
      ((.readStatusAttemptExpiry ∈ t.pending ↔
          ∃ a automatic n due x, s.lc.slot = some (.read a automatic n due x) ∧ HasRunOut (some x) t.now) ∧
        (.detectorTestWindowExpiry ∈ t.pending ↔
          ∃ target mask due x answered, s.lc.slot = some (.test target mask due x answered) ∧ HasRunOut x t.now) ∧
        (.silenceExpiry ∈ t.pending ↔ HasRunOut s.lc.silence t.now) ∧
        (.retryExpiry ∈ t.pending ↔ HasRunOut s.lc.retry t.now) ∧
        (∀ a, .pollNoAnswer a ∈ t.pending ↔ ∃ b, s.lc.answerSlot = some b ∧ a = BitVec.ofNat 6 b) ∧
        (∀ a, .pollDue a ∈ t.pending ↔ s.lc.state = .up ∧ ∃ b r, (b, r) ∈ s.lc.roster ∧ a = BitVec.ofNat 6 b ∧
          r.pollDue = false ∧ HasRunOut (some r.pollAt) t.now) ∧
        (.loopFrameSlot ∈ t.pending ↔ s.lc.state = .up) ∧
        (∀ d, .walkExpiry d ∈ t.pending ↔ ∃ w, (d, w) ∈ s.lc.walks ∧ HasRunOut w.expiry t.now)) ∧
      ((∀ d, .staleExpiry d ∈ t.pending ↔ ∃ v, (d, v) ∈ s.tc ∧ HasRunOut v.stale t.now) ∧
        (∀ d, .openExpiry d ∈ t.pending ↔ ∃ v, (d, v) ∈ s.vg.valves ∧ HasRunOut v.openExpiry t.now) ∧
        (∀ d, .settleExpiry d ∈ t.pending ↔ ∃ v, (d, v) ∈ s.vg.valves ∧ HasRunOut v.settleExpiry t.now) ∧
        (∀ d, .closeExpiry d ∈ t.pending ↔ ∃ v, (d, v) ∈ s.vg.valves ∧ HasRunOut v.closeExpiry t.now) ∧
        (∀ d, .travelExpiry d ∈ t.pending ↔ ∃ g, (d, g) ∈ s.vg.gates ∧ HasRunOut g.travel t.now)) ∧
      ((∀ n, .unackedExpiry n ∈ t.pending ↔ ∃ i ∈ s.it.incidents, i.id = n ∧ HasRunOut i.unacked t.now) ∧
        (∀ n, .quietExpiry n ∈ t.pending ↔ ∃ i ∈ s.it.incidents, i.id = n ∧ HasRunOut i.quiet t.now) ∧
        (∀ n, .silenceResoundExpiry n ∈ t.pending ↔ ∃ i ∈ s.it.incidents, i.id = n ∧ HasRunOut i.resound t.now)) ∧
      (let waits (g : Nat) (st : ListStep) : Prop := ∃ r e x, Table.get s.gs g = some r ∧
          Table.get s.model.groups g = some e ∧ r.runner = some x ∧ (listOf e x.list)[x.step - 1]? = some st ∧
          HasRunOut x.expiry t.now;
        (∀ g, .pauseExpiry g ∈ t.pending ↔ ∃ time, waits g (.pause time)) ∧
        (∀ g, .stepTimeout g ∈ t.pending ↔ ∃ st, waits g st ∧ ∀ time, st ≠ .pause time) ∧
        (∀ w, .warningExpiry w ∈ t.pending ↔ ∃ r, (w, r) ∈ s.cc.walls ∧ HasRunOut r.warning t.now) ∧
        (∀ w n, .doorCloseExpiry w n ∈ t.pending ↔
          ∃ r x, (w, r) ∈ s.cc.walls ∧ 1 ≤ n ∧ r.doors[n - 1]? = some x ∧ HasRunOut x.expiry t.now) ∧
        (∀ c, .damperExpiry c ∈ t.pending ↔ ∃ r, (c, r) ∈ s.cc.crossings ∧ HasRunOut r.expiry t.now) ∧
        (∀ n, .cadenceExpiry n ∈ t.pending ↔ ∃ r, (n, r) ∈ s.sc.sirens ∧ HasRunOut r.cadence t.now) ∧
        (.testExpiry ∈ t.pending ↔ ∃ source x, s.sc.test = some (source, x) ∧ HasRunOut (some x) t.now)) ∧
      (.chainGoodExpiry .out ∈ t.pending ↔ HasRunOut s.pi.outChain.goodAt t.now) ∧
      (.chainGoodExpiry .inp ∈ t.pending ↔ HasRunOut s.pi.inChain.goodAt t.now) ∧
      (∀ p, .debounceExpiry p ∈ t.pending ↔
        ∃ since, (p, since) ∈ s.pi.timing ∧ HasRunOut (some (since + ms (debounceOf s p))) t.now) ∧
      (∀ m, .blankingExpiry m ∈ t.pending ↔ ∃ r, (m, r) ∈ s.cm ∧ HasRunOut r.blanking t.now) ∧
      ∀ k tag body, command k tag body ∉ t.pending

/-- Every command completes in every state: it stops nowhere, leaves the queue as it was, and lets no part time pass unless
it is COLD_RESET. The queue is the model's (log 1), that COLD_RESET leaves it is log 4, that no part time passes inside a
command is log 2, and that a command which names an absent record completes without effect is log 36. -/
def Obligations.EveryCommandCompletes : Prop :=
  ∀ (c : Instr) (s : State),
    ∃ t, exec c s = .next t ∧ t.pending = s.pending ∧ (c ≠ .coldReset → t.now = s.now)

/-- R90, the ALARM line: after every command it is on exactly while the table holds an incident at level 2 or 3; it is off
after cold reset and after an accepted COMMIT; and where it followed the rule before, it changes just at the first such
incident and at the last one's end. -/
def Obligations.AlarmLineFollowsIncidents : Prop :=
  (∀ c s t, exec c s = .next t →
    (t.lines.alarm = true ↔ ∃ i ∈ t.it.incidents, 2 ≤ i.level) ∧
    (LinesLaw s → s.lines.alarm ≠ t.lines.alarm →
      ((∃ i ∈ s.it.incidents, 2 ≤ i.level) ↔ ¬ ∃ i ∈ t.it.incidents, 2 ≤ i.level))) ∧
  (∀ s t, exec .coldReset s = .next t → t.lines.alarm = false) ∧
  ∀ tag body s t, exec (.commit tag body) s = .next t → s.lp.mode = .config → t.lp.mode = .run → t.lines.alarm = false

/-- R179, the ATTN line: after every command it is on exactly when the queue holds at least the threshold count or any ALARM
notice; off after cold reset; with a threshold of 1 any notice raises it; with one of 64 and no ALARM notice, only a full
queue does. -/
def Obligations.AttnLineFollowsQueue : Prop :=
  (∀ c s t, exec c s = .next t →
    (t.lines.attn = true ↔
      t.lp.attnThreshold ≤ t.lp.notices.length ∨ ∃ n ∈ t.lp.notices, n.cls = .alarm) ∧
    (t.lp.attnThreshold = 1 → t.lp.notices ≠ [] → t.lines.attn = true) ∧
    (Bounds s → t.lp.attnThreshold = 64 → (∀ n ∈ t.lp.notices, n.cls ≠ .alarm) →
      (t.lines.attn = true ↔ t.lp.notices.length = 64))) ∧
  ∀ s t, exec .coldReset s = .next t → t.lines.attn = false

/-- R159, the FAULT line: after every command it is on exactly while at least one of the table's conditions holds. A duct
with no UPSTREAM detector in the roster is not judged blind (02 R31; DEVICES of R12 commits none). -/
def Obligations.FaultLineFollowsConditions : Prop :=
  ∀ c s t, exec c s = .next t →
    (t.lines.fault = true ↔
      t.lp.hostLost ≠ none ∨ t.lc.state = .down ∨
      (∃ e ∈ t.lc.roster, e.2.kind ≠ .flow ∧ (e.2.state = .missing ∨ e.2.state = .isolated ∧ e.2.misses = 3)) ∨
      (∃ d ∈ t.model.ducts,
        (∃ e ∈ t.lc.roster, e.2.duct = d.1 ∧ e.2.kind = .detector .upstream) ∧
        ∀ e ∈ t.lc.roster, e.2.duct = d.1 → e.2.kind = .detector .upstream →
          e.2.state = .missing ∨ e.2.state = .isolated) ∨
      t.pi.outChain.state = .faulted ∨ t.pi.inChain.state = .faulted ∨
      (∃ e ∈ t.cm, e.2.state = .opened ∨ e.2.state = .shorted) ∨
      (∃ e ∈ t.vg.valves, e.2.failed = true) ∨ (∃ e ∈ t.vg.gates, e.2.state = .jammed) ∨
      (∃ e ∈ t.cc.walls, ∃ x ∈ e.2.doors, x.state = .stuck) ∨ (∃ e ∈ t.cc.crossings, e.2.state = .jammed) ∨
      ∃ e ∈ t.gs, e.2.fault ≠ none)

/-- Every step keeps the limits that the rules give these: 64 notices and 4 replies (R170), 16 incidents of distinct ids
(R77), 3 merged origins and 24 actions an incident (R78), 16 ring entries (R76), 8 windows (R54); and, with the tables in
order, 16 demands a siren, of incidents held, one each (R136), 62 addresses in the auto-read pending set, each once and in
order (R33), 6 in a walk's seen list, each a detector of its duct and once (R167), each address once in a test's answered
set (R35), 6 detectors a duct in the roster (R12), and 62 loop devices of addresses 1 to 62 in the tables (R2, R4). That a
test's answered set may hold the addresses 0 and 63, beyond the 62 of R35, is the model's (log 37). -/
def Obligations.StepKeepsLimits : Prop :=
  (∀ s t, Bounds s → step s = .next t → Bounds t) ∧
  ∀ s t, Bounds s → TablesRise s.tables → SetBounds s → step s = .next t → SetBounds t

/-- The state after reset keeps the laws of this file: the laws of the groups and of the walls (R100, R128) and what they
stand on, the limits of the queues and of the sets, the lines, the empty table outside RUN, the sirens, the origins, the
records, and the tables, the pending reads and the window queues in their order, whatever the base time. -/
def Obligations.ResetKeepsLaws : Prop :=
  Grounded State.reset ∧ GroupsInterlocked State.reset ∧ WallsInterlocked State.reset ∧
  Bounds State.reset ∧ SetBounds State.reset ∧ LinesLaw State.reset ∧ OutsideRunEmpty State.reset ∧ OriginsDistinct State.reset ∧
    SirensSelect State.reset ∧ NoReadWaits State.reset ∧ AutoReadsRise State.reset ∧ RecordsFollowModel State.reset ∧
    Table.wf State.reset.lc.roster = true ∧ TablesRise State.reset.tables ∧ TablesRise State.reset.model ∧
    ∀ base, QueuesLaw base State.reset

/-- R77, R79, R86 kept by every step: the incident table is empty while the part is not in RUN; each duct and each
compartment is an origin of at most one incident, once; an incident's level never falls while it stays in the table; and a
SHUTDOWN or RELEASE entry stands only in a level-3 incident, for the group of an origin duct or a wall that adjoins an origin
compartment (R88, R89). That ids are distinct is the premise `Bounds`, an invariant of its own. -/
def Obligations.IncidentTableKeepsItsLaws : Prop :=
  (∀ s t, OutsideRunEmpty s → step s = .next t → OutsideRunEmpty t) ∧
  (∀ s t, Bounds s → OriginsDistinct s → step s = .next t → OriginsDistinct t) ∧
  (∀ s t, Grounded s → step s = .next t → DemandsHaveOrigins t) ∧
  (∀ s t, Bounds s → step s = .next t →
     ∀ i ∈ s.it.incidents, ∀ j ∈ t.it.incidents, i.id = j.id → i.level ≤ j.level)

/-- R137's law kept by every step: each siren sounds the pattern that the table of the selection gives for its record: none
when isolated, else EVACUATE over ALERT among its unsilenced demands, else TEST, else none. -/
def Obligations.SirensSoundTheirSelection : Prop :=
  ∀ s t, SirensSelect s → step s = .next t → SirensSelect t

/-- R15 and R16 kept by every step: the blocks hold a record for exactly the entries of the committed model; the entries of
the tables, and of the committed copy, stand in rising order, each index once; and so do the records of the roster, each
address once. -/
def Obligations.RecordsFollowCommittedModel : Prop :=
  (∀ s t, RecordsFollowModel s → step s = .next t → RecordsFollowModel t) ∧
  (∀ s t, TablesRise s.tables ∧ TablesRise s.model → step s = .next t → TablesRise t.tables ∧ TablesRise t.model) ∧
  ∀ s t, Table.wf s.lc.roster = true → step s = .next t → Table.wf t.lc.roster = true

/-- R173 to R176, R160: the mode is changed only by SETUP (LINK-WAIT to CONFIG), COMMIT (CONFIG to RUN) and ENTER-CONFIG (RUN
to CONFIG), or by the last byte of a frame that carries one of them; else only by a cold reset. -/
def Obligations.ModeChangesOnlyBySession : Prop :=
  ∀ c s t, exec c s = .next t → t.lp.mode ≠ s.lp.mode →
    (c = .coldReset ∧ t.lp.mode = .linkWait) ∨
    (s.lp.mode = .linkWait ∧ t.lp.mode = .config ∧
      ((∃ tag body, c = .setup tag body) ∨ ∃ b, c = .linkByteReceived b)) ∨
    (s.lp.mode = .config ∧ t.lp.mode = .run ∧
      ((∃ tag body, c = .commit tag body) ∨ ∃ b, c = .linkByteReceived b)) ∨
    (s.lp.mode = .run ∧ t.lp.mode = .config ∧
      ((∃ tag body, c = .enterConfig tag body) ∨ ∃ b, c = .linkByteReceived b))

/-- R1: the tables change only in CONFIG, by LOAD or CLEAR-CONFIG, or at a cold reset; the blocks' copy of them changes only
there or at an accepted COMMIT, which leaves it equal to the tables. -/
def Obligations.TablesChangeOnlyInConfig : Prop :=
  ∀ c s t, exec c s = .next t → c ≠ .coldReset →
    (t.tables ≠ s.tables → s.lp.mode = .config ∧
      ((∃ tag body, c = .load tag body) ∨ (∃ tag body, c = .clearConfig tag body) ∨ ∃ b, c = .linkByteReceived b)) ∧
    (t.model ≠ s.model → s.lp.mode = .config ∧ t.lp.mode = .run ∧ t.model = s.tables ∧ t.tables = s.tables ∧
      ((∃ tag body, c = .commit tag body) ∨ ∃ b, c = .linkByteReceived b))

/-! ## The notice queue -/

/-- R177: what placing a notice does: it takes the next sequence number whether or not it finds room; it joins a queue with
room; in a full queue it takes the place of the oldest notice of the lowest class below its own that is present, or is
dropped, and the overrun flag is set. -/
def Obligations.NoticesArePlacedByClass : Prop :=
  ∀ (c : NoticeClass) (b : NoticeBody) (s : State),
    let n : Notice := { seq := s.lp.nextSeq, cls := c, time := s.now, body := b }
    let t := postNotice c b s
    t.lp.nextSeq = s.lp.nextSeq + 1#16 ∧ Frame [.lp] s t ∧ Reports s t ∧
    (s.lp.notices.length < 64 → t.lp.notices = s.lp.notices ++ [n] ∧ t.lp.overrun = s.lp.overrun) ∧
    (64 ≤ s.lp.notices.length → t.lp.overrun = true ∧
      (∀ before x after, s.lp.notices = before ++ x :: after → (∀ y ∈ before, y.cls ≠ x.cls) →
        (c = .alarm ∧ x.cls = .state ∨
          c = .alarm ∧ x.cls = .fault ∧ (∀ y ∈ s.lp.notices, y.cls ≠ .state) ∨
          c = .fault ∧ x.cls = .state) → t.lp.notices = before ++ after ++ [n]) ∧
      ((c = .state ∨ c = .fault ∧ (∀ y ∈ s.lp.notices, y.cls ≠ .state) ∨
          c = .alarm ∧ ∀ y ∈ s.lp.notices, y.cls = .alarm) → t.lp.notices = s.lp.notices))

/-- R177: the queue is emptied only by cold reset and by FETCH: every other command leaves every ALARM notice in the queue,
in order, before any that it adds, and the overrun flag set where it was. A byte that ends a frame may carry a FETCH. -/
def Obligations.AlarmNoticesAreNeverDisplaced : Prop :=
  ∀ c s t, exec c s = .next t → c ≠ .coldReset → (∀ tag body, c ≠ .fetch tag body) → (∀ b, c ≠ .linkByteReceived b) →
    (s.lp.notices.filter fun n => n.cls == .alarm) <+: (t.lp.notices.filter fun n => n.cls == .alarm) ∧
    (s.lp.overrun = true → t.lp.overrun = true)

/-! ## Cold reset and the link -/

/-- R160, with R1, R22, R37, R54, R76, R77, R99, R118, R136, R144, R146, R150, R153 to R155, R170: what COLD_RESET leaves.
That the waiting commands go on waiting is the model's (log 4). -/
def Obligations.ColdResetLeaves : Prop :=
  ∀ s : State, ∃ t, exec .coldReset s = .next t ∧ t.pending = s.pending ∧ t.now = 0#32 ∧
    t.lines = { attn := false, alarm := false, fault := false } ∧
    t.lp = { mode := .linkWait, linkTimeout := 0, attnThreshold := 1, errors := 0, hostLost := none,
             hostLostExpiry := none, notices := [], overrun := false, nextSeq := 0#16, replies := [],
             receiver := .hunting } ∧
    (∀ k n, entryAt t.tables k n = none) ∧ (∀ k n, entryAt t.model k n = none) ∧
    t.lc.roster = [] ∧ t.lc.state = .idle ∧ t.lc.errors = 0 ∧ t.lc.foreign = 0 ∧ t.lc.silence = none ∧
    t.lc.retry = none ∧ t.lc.slot = none ∧ t.lc.autoReads = [] ∧ t.lc.walks = [] ∧
    t.tc = [] ∧ t.vg.valves = [] ∧ t.vg.gates = [] ∧
    t.it.incidents = [] ∧ t.it.lastId = 0 ∧ t.it.sparks = [] ∧ t.gs = [] ∧ t.cc.walls = [] ∧ t.cc.crossings = [] ∧
    t.sc.sirens = [] ∧ t.sc.test = none ∧
    t.sc.clock = { time := { day := 0, weekday := 0, hour := 0, minute := 0, second := 0 }, isSet := false } ∧
    t.sc.nextAdvance = 1000#32 ∧
    t.pi.out = 0#128 ∧ (∀ p, inLevel t p = none) ∧ t.pi.timing = [] ∧ (∀ p, debounceOf t p = 0) ∧
    t.pi.outChain.state = .good ∧ t.pi.inChain.state = .good ∧ t.cm = []

/-- R171, row by row, for a byte that ends no gap, and the last row for one that does. A good frame is taken in the event of
its last byte as the command of its request (log 6). R182, the check of a frame: the cyclic code of generator x^16 + x^12 +
x^5 + 1 and initial value 0xFFFF over the length byte and the payload; that each byte's bits enter most significant first is
the model's (log 7). A sequence followed by its own check leaves the register at 0. -/
def Obligations.LinkBytesBuildFrames : Prop :=
  (∀ b s, s.lp.receiver = .hunting → Happens (.linkByteReceived b) s [.lp] fun t =>
    t.lp = if b = 0xC3#8 then { s.lp with receiver := .awaitLength s.now } else s.lp) ∧
  (∀ b s last, s.lp.receiver = .awaitLength last → (s.now - last).toInt ≤ 20 →
    Happens (.linkByteReceived b) s [.lp] fun t =>
      t.lp = if 2 ≤ b.toNat ∧ b.toNat ≤ 250
        then { s.lp with receiver := .inFrame b.toNat [] (b.toNat + 2) s.now }
        else { s.lp with errors := min (s.lp.errors + 1) 65535, receiver := .hunting }) ∧
  (∀ b s n bytes rest last, s.lp.receiver = .inFrame n bytes rest last → (s.now - last).toInt ≤ 20 → 2 ≤ rest →
    Happens (.linkByteReceived b) s [.lp] fun t =>
      t.lp = { s.lp with receiver := .inFrame n (bytes ++ [b]) (rest - 1) s.now }) ∧
  (∀ b s n bytes last payload high low, s.lp.receiver = .inFrame n bytes 1 last → (s.now - last).toInt ≤ 20 →
    bytes ++ [b] = payload ++ [high, low] → payload.length = n →
    if (linkCheck (BitVec.ofNat 8 n :: payload)).toNat = wordOf high low then
      (∀ k tag body, payload = codeOf k :: tag :: body →
        exec (.linkByteReceived b) s = exec (command k tag body) s) ∧
      (∀ code tag body, payload = code :: tag :: body → (∀ k, code ≠ codeOf k) →
        exec (.linkByteReceived b) s = exec (.unknownKind code tag body) s)
    else Happens (.linkByteReceived b) s [.lp] fun t =>
      t.lp = { s.lp with errors := min (s.lp.errors + 1) 65535, receiver := .hunting }) ∧
  (∀ b (s : State) last,
    (s.lp.receiver = .awaitLength last ∨ ∃ n bytes rest, s.lp.receiver = .inFrame n bytes rest last) →
    20 < (s.now - last).toInt →
    exec (.linkByteReceived b) s = exec (.linkByteReceived b)
      { s with lp := { s.lp with errors := min (s.lp.errors + 1) 65535, receiver := .hunting } }) ∧
  linkCheck [] = 0xFFFF#16 ∧
  (∀ bs (b : Byte), linkCheck (bs ++ [b]) = [7, 6, 5, 4, 3, 2, 1, 0].foldl
    (fun (c : BitVec 16) (k : Nat) => if c.getLsbD 15 = b.getLsbD k then c <<< 1 else (c <<< 1) ^^^ 0x1021#16) (linkCheck bs)) ∧
  ∀ bs (high low : Byte), (linkCheck bs).toNat = wordOf high low → linkCheck (bs ++ [high, low]) = 0#16

/-- R171, R172, R180: a discarded frame, and a frame abandoned after a gap of more than 20 ms, raise the link error count by
1, saturating, and leave the receiver hunting; UNKNOWN_KIND is answered UNKNOWN-KIND; REPLY_SENT takes the oldest reply out
of the queue; the host-lost expiry that runs out in RUN sets the flag, stops, and posts HOST-LOST of class FAULT. That
LINK_FRAME_DISCARDED stands for a whole frame is the model's (log 6). -/
def Obligations.LinkEventsComplete : Prop :=
  (∀ s, Happens .linkFrameDiscarded s [.lp] fun t =>
    t.lp = { s.lp with errors := min (s.lp.errors + 1) 65535, receiver := .hunting }) ∧
  (∀ (s : State) (last : PartTime),
    (s.lp.receiver = .awaitLength last ∨ ∃ n bytes rest, s.lp.receiver = .inFrame n bytes rest last) →
    20 < (s.now - last).toInt →
    Happens .linkByteGapTimeout s [.lp] fun t =>
      t.lp = { s.lp with errors := min (s.lp.errors + 1) 65535, receiver := .hunting }) ∧
  (∀ kind tag body s, s.lp.replies.length < 4 →
    Happens (.unknownKind kind tag body) s [.lp] (Answered kind tag (.refused .unknownKind .none []) [] s)) ∧
  (∀ s r rest, s.lp.replies = r :: rest →
    Happens .replySent s [.lp] fun t => t.lp = { s.lp with replies := rest }) ∧
  ∀ s : State, s.lp.mode = .run → HasRunOut s.lp.hostLostExpiry s.now →
    Happens .hostLostExpiry s [.lp] fun t =>
      t.lp = { posted [(.fault, .hostLost none)] s with hostLost := some s.now, hostLostExpiry := none }

/-- R173, the table of the modes: NOT-SET-UP for every request but SETUP in LINK-WAIT, WRONG-MODE where the table says so;
each refusal changes nothing; and no other request gets either refusal. -/
def Obligations.RequestsAreTakenByMode : Prop :=
  ∀ (k : ReqKind) (tag : Byte) (body : List Byte) (s : State), s.lp.replies.length < 4 →
    if s.lp.mode = .linkWait ∧ k ≠ .setup then Refuses k tag body s .notSetUp .none []
    else if s.lp.mode = .config ∧ k ∈ [.ack, .silence, .resetIncident, .manualAlarm, .releaseWall, .reholdWall,
        .restartGroup, .stopGroup, .testSirens, .isolate, .restore, .walkStart, .walkEnd, .detectorTest, .readDetector,
        .drivePoint, .clearValveFail, .enterConfig] then Refuses k tag body s .wrongMode .none []
    else if s.lp.mode = .run ∧ k ∈ [.load, .clearConfig, .commit] then Refuses k tag body s .wrongMode .none []
    else ∃ t r, exec (command k tag body) s = .next t ∧ t.lp.replies = s.lp.replies ++ [r] ∧
      ∀ why args, r.status ≠ .refused .notSetUp why args ∧ r.status ≠ .refused .wrongMode why args

/-- R172, checks 1 and 4, and R182: while the reply queue holds 4 replies a valid frame is not taken as a request: no reply,
the link error count raised by 1, and what every valid frame does (R171, R180); a body that is too short or too long for its
kind, or that holds an enumeration or yes-or-no byte beyond its list, is refused BAD-VALUE naming its first field at fault,
before its owner judges it. The position 255 for a body that goes on after its last field, and in a LOAD for what has not
been read, is the model's (log 9); the body forms of the queries are log 8. An element kind byte beyond the six is such a
byte: check 4 comes before R161's own refusals (log 13). -/
def Obligations.FramesAreCheckedBeforeOwners : Prop :=
  (∀ c s, (∃ k tag body, c = command k tag body) ∨ (∃ kind tag body, c = .unknownKind kind tag body) →
    4 ≤ s.lp.replies.length →
    Happens c s [.lp] fun t =>
      t.lp = { posted (foundNotice s) s with
        errors := min (s.lp.errors + 1) 65535
        receiver := .hunting
        hostLost := none
        hostLostExpiry := expiryAfterFrame s.lp.mode s.lp.linkTimeout s.now }) ∧
  ∀ tag (s : State),
    let wrong (k : ReqKind) (body : List Byte) (field : Nat) : Prop :=
      Taken k s → Refuses k tag body s .badValue .field [field]
    (∀ k ∈ [ReqKind.clearConfig, .commit, .enterConfig, .queryLink, .testSirens], ∀ b rest, wrong k (b :: rest) 255) ∧
    (∀ k ∈ [ReqKind.queryValve, .queryGroup, .queryWall, .querySiren, .queryLoop, .fetch, .ack, .resetIncident,
        .manualAlarm, .releaseWall, .reholdWall, .restartGroup, .stopGroup, .walkEnd, .readDetector, .clearValveFail],
      wrong k [] 0 ∧ ∀ a b rest, wrong k (a :: b :: rest) 255) ∧
    (∀ k ∈ [ReqKind.setup, .walkStart, .detectorTest],
      wrong k [] 0 ∧ ∀ a, wrong k [a] 1 ∧ ∀ b c rest, wrong k (a :: b :: c :: rest) 255) ∧
    (∀ k ∈ [ReqKind.isolate, .restore], wrong k [] 0 ∧ ∀ a : Byte,
      (6 ≤ a.toNat → ∀ rest, wrong k (a :: rest) 0) ∧
      (a.toNat < 6 → wrong k [a] 1 ∧ ∀ b c rest, wrong k (a :: b :: c :: rest) 255)) ∧
    (∀ k ∈ [ReqKind.queryDuct, .drivePoint], wrong k [] 0 ∧ ∀ a, wrong k [a] 1 ∧ ∀ b : Byte,
      (2 ≤ b.toNat → ∀ rest, wrong k (a :: b :: rest) 1) ∧
      (b.toNat < 2 → ∀ c rest, wrong k (a :: b :: c :: rest) 255)) ∧
    (wrong .queryIncident [] 0 ∧ ∀ p : Byte, wrong .queryIncident [p] 0 ∧
      (2 ≤ p.toNat → ∀ rest, wrong .queryIncident (p :: rest) 0) ∧
      (p.toNat < 2 → ∀ a b rest, wrong .queryIncident (p :: a :: b :: rest) 255)) ∧
    (wrong .silence [] 0 ∧ ∀ a, wrong .silence [a] 1 ∧ ∀ b, wrong .silence [a, b] 1 ∧
      ∀ c d rest, wrong .silence (a :: b :: c :: d :: rest) 255) ∧
    (∀ body, (body.length < 6 → wrong .setClock body (body.length - 1)) ∧ (6 < body.length → wrong .setClock body 255)) ∧
    (Taken .load s → Refuses .load tag [] s .badValue .field [255, 255, 255, 255] ∧
      ∀ t : Byte, Refuses .load tag [t] s .badValue .field [t.toNat, 255, 255, 255] ∧
        ∀ i : Byte, Refuses .load tag [t, i] s .badValue .field [t.toNat, i.toNat, 255, 255])

/-! ## The link session -/

/-- R174, SETUP: a value outside its range is refused BAD-VALUE; else both fields are replaced, LINK-WAIT becomes CONFIG, the
host-lost expiry is set anew in RUN or stopped, ATTN is judged against the new threshold, and the reply names the mode before
and after. -/
def Obligations.SetupIsTakenInEveryMode : Prop :=
  ∀ (tag timeout threshold : Byte) (s : State), s.lp.replies.length < 4 →
    if 60 < timeout.toNat then Refuses .setup tag [timeout, threshold] s .badValue .field [0]
    else if threshold.toNat < 1 ∨ 64 < threshold.toNat then
      Refuses .setup tag [timeout, threshold] s .badValue .field [1]
    else
      let next : Mode := if s.lp.mode = .linkWait then .config else s.lp.mode
      Happens (.setup tag [timeout, threshold]) s [.lp] fun t =>
        t.lp = { posted (foundNotice s) s with
          replies := s.lp.replies ++ [replyOf 0x01#8 tag (.accepted (.setup s.lp.mode next))]
          receiver := .hunting
          hostLost := none
          mode := next
          linkTimeout := timeout.toNat
          attnThreshold := threshold.toNat
          hostLostExpiry := expiryAfterFrame s.lp.mode timeout.toNat s.now } ∧
        (t.lines.attn = true ↔
          threshold.toNat ≤ t.lp.notices.length ∨ ∃ n ∈ t.lp.notices, n.cls = .alarm)

/-- R178, FETCH: a count outside 1 to 8 is refused BAD-VALUE; else the oldest notices, as many as asked and as fit in a reply
of 250 bytes leave the queue, and the overrun flag is returned as it stood and cleared. The layout is 12 R184 and R185; the
sizes of the notice bodies, on which how many fit rests, are the model's (log 23), and so is that the HOST-LOST notice of the
FETCH's own frame is posted before it (log 51). -/
def Obligations.FetchReturnsOldestNotices : Prop :=
  ∀ (tag n : Byte) (s : State), Taken .fetch s →
    if n.toNat < 1 ∨ 8 < n.toNat then Refuses .fetch tag [n] s .badValue .field [0]
    else Happens (.fetch tag [n]) s [.lp] fun t =>
      let q := (posted (foundNotice s) s).notices
      let overrun := (posted (foundNotice s) s).overrun
      ∃ j, j ≤ n.toNat ∧ j ≤ q.length ∧ (∀ x rest, q = x :: rest → (bytesNotice x).length ≤ 244 → 1 ≤ j) ∧
        6 + ((q.take j).flatMap bytesNotice).length ≤ 250 ∧
        (j < n.toNat → j < q.length → 250 < 6 + ((q.take (j + 1)).flatMap bytesNotice).length) ∧
        t.lp = { posted (foundNotice s) s with
          notices := q.drop j
          overrun := false
          replies := s.lp.replies ++ [replyOf 0x18#8 tag (.accepted (.fetched (q.take j) (q.length - j) overrun))]
          receiver := .hunting
          hostLost := none
          hostLostExpiry := expiryAfterFrame s.lp.mode s.lp.linkTimeout s.now }

/-- R176, ENTER-CONFIG: refused while an incident is held, then while a group is moving; else CONFIG, with the host-lost
expiry stopped, every valve closed and its queue emptied (R68). R148: a running siren test ends with a TEST-INTERRUPTED
notice that lists the marked sirens and names CONFIG; every demand leaves every siren, every cadence stops, every siren
output is off; the outputs are written valve by valve and then siren by siren, an interrupted test's before the sirens', and
the monitors change only by the filter restarts of those writes (R156, R158), the inputs and the chains not at all; the
isolated and the fault flags are kept. That a valve keeps the two flags of its head is the model's (log 49), and so is the
reason STATE of the refusal for a moving group, of which R176 names the group and its state (log 11). -/
def Obligations.EnterConfigClosesValvesAndSirens : Prop :=
  ∀ (tag : Byte) (s : State), Taken .enterConfig s →
    (∀ i rest, s.it.incidents = i :: rest → Refuses .enterConfig tag [] s .badState .incident [i.id]) ∧
    (∀ before g r after, s.it.incidents = [] → s.gs = before ++ (g, r) :: after →
      (∀ e ∈ before, e.2.state = .running ∨ e.2.state = .stopped) → r.state = .stopping ∨ r.state = .starting →
      Refuses .enterConfig tag [] s .badState .state [g, if r.state = .stopping then 1 else 3]) ∧
    (s.it.incidents = [] → (∀ e ∈ s.gs, e.2.state = .running ∨ e.2.state = .stopped) →
      let interrupted : List (NoticeClass × NoticeBody) := match s.sc.test with
        | some (source, _) => [(.state, .testInterrupted source
            ((s.sc.sirens.filter fun e => e.2.testFault).map fun e => e.1) true)]
        | none => []
      Happens (.enterConfig tag []) s [.lp, .vg, .sc, .pi, .cm] fun t =>
        t.lp = { posted (foundNotice s ++ interrupted) s with
          mode := .config
          replies := s.lp.replies ++ [replyOf 0x05#8 tag (.accepted (.mode .config))]
          receiver := .hunting
          hostLost := none
          hostLostExpiry := none } ∧
        (∃ between : List (Nat × Bool), (s.sc.test = none → between = []) ∧
          (∀ w ∈ between, ∃ n e, Table.get s.model.sirens n = some e ∧ e.output = w.1) ∧
          Wrote ((s.vg.valves.filterMap fun v => (Table.get s.model.valves v.1).map fun e => (e.output, false)) ++ between ++
            s.sc.sirens.filterMap fun r => (Table.get s.model.sirens r.1).map fun e => (e.output, false)) s t) ∧
        t.pi = { s.pi with out := t.pi.out } ∧
        t.vg.gates = s.vg.gates ∧
        (∀ d, Table.get t.vg.valves d = (Table.get s.vg.valves d).map fun v => { v with
          state := .idle, queue := [], openExpiry := none, closeExpiry := none, settleExpiry := none }) ∧
        (∀ d e v, Table.get s.model.valves d = some e → Table.get s.vg.valves d = some v →
          (∀ x ∈ s.model.sirens, x.2.output ≠ e.output) → levelOf t.pi.out e.output = false) ∧
        t.sc.test = none ∧ t.sc.clock = s.sc.clock ∧ t.sc.nextAdvance = s.sc.nextAdvance ∧
        (∀ n, Table.get t.sc.sirens n = (Table.get s.sc.sirens n).map fun r => { r with
          demands := [], testDemand := false, sounding := none, phase := none, cadence := none
          testFault := r.testFault && s.sc.test.isNone }) ∧
        (∀ n e r, Table.get s.model.sirens n = some e → Table.get s.sc.sirens n = some r →
          levelOf t.pi.out e.output = false) ∧
        ∀ p, (∀ d e, Table.get s.model.valves d = some e → e.output ≠ p) →
          (∀ n e, Table.get s.model.sirens n = some e → e.output ≠ p) → levelOf t.pi.out p = levelOf s.pi.out p)

/-! ## The mill model (Chapter 1) -/

/-- R1, R2: CLEAR-CONFIG makes every entry of every table absent. A LOAD is judged in the order of the table; a refused LOAD
changes nothing; an accepted one makes just its entry present with its values, field for field, or absent. The fields are
read as 12 R182 lays them out: the bytes laid out for an entry within its ranges (`fieldsOf`) give that entry, and bytes that
give an entry are those laid out for it, but for the bytes of a distance whose presence bit is clear; on, made, RUN and STOP
of an INFEED step are 0 by log 10; a body whose first three bytes fit no LOAD is refused as log 9 says, and which field a
refusal names when two fields of an entry disagree is log 15. -/
def Obligations.LoadAndClearChangeTables : Prop :=
  (∀ tag s, Taken .clearConfig s → Completes .clearConfig tag [] s (.accepted .nothing) [] [.tables] fun t =>
    ∀ k n, entryAt t.tables k n = none) ∧
  (∀ tag table index present rest s, Taken .load s →
    (14 ≤ table.toNat ∨ present.toNat = 0 ∧ rest ≠ [] ∨ 2 ≤ present.toNat) →
    Refuses .load tag (table :: index :: present :: rest) s .badValue .field [table.toNat, index.toNat, 255, 255]) ∧
  (∀ (e : Entry) (rest : List Byte), entryError e = none → takeEntry (tableOf e) (fieldsOf e ++ rest) = .ok (e, rest)) ∧
  (∀ (e : Entry) (rest : List Byte), (∀ x, e = .duct x → x.crossings.length ≤ 3) →
    (∀ x, e = .group x → x.aux.length ≤ 8 ∧ x.shutdown.length ≤ 12 ∧ x.restart.length ≤ 12) →
    (∀ x, e = .wall x → x.doors.length ≤ 4 ∧ ∀ c, x.compB = some c → c ≤ 8) →
    ∃ e', takeEntry (tableOf e) (fieldsOf e ++ rest) = .ok (e', rest)) ∧
  (∀ (k : TableId) (b : List Byte) (e : Entry) (rest : List Byte), takeEntry k b = .ok (e, rest) →
    tableOf e = k ∧ (k ≠ .detector → b = fieldsOf e ++ rest)) ∧
  (∀ (b : List Byte) (e : Entry) (rest : List Byte), takeEntry .detector b = .ok (e, rest) ↔
    ∃ p addr duct role d1 d2 g1 g2 : Byte, b = p :: addr :: duct :: role :: d1 :: d2 :: g1 :: g2 :: rest ∧
      p.toNat < 4 ∧ role.toNat < 2 ∧ e = .detector {
        addr := addr.toNat, duct := duct.toNat, role := if role.toNat = 0 then .upstream else .downstream
        dist := if p.getLsbD 0 then some (wordOf d1 d2) else none
        gateDist := if p.getLsbD 1 then some (wordOf g1 g2) else none }) ∧
  (∀ (tag table index : Byte) (fields : List Byte) (k : TableId) (err : FieldError) (s : State), Taken .load s →
    tableIds[table.toNat]? = some k → (takeEntry k fields).bind wholeBody = .error err →
    Refuses .load tag (table :: index :: 1#8 :: fields) s .badValue .field
      [table.toNat, index.toNat, err.field, err.step]) ∧
  (∀ (tag table index : Byte) (k : TableId) (s : State), Taken .load s → tableIds[table.toNat]? = some k →
    if tableSize k ≤ index.toNat then Refuses .load tag [table, index, 0#8] s .noSuch .none []
    else Completes .load tag [table, index, 0#8] s (.accepted .nothing) [] [.tables] fun t =>
      entryAt t.tables k index.toNat = none ∧
      ∀ k' n, ¬ (k' = k ∧ n = index.toNat) → entryAt t.tables k' n = entryAt s.tables k' n) ∧
  ∀ (tag table index : Byte) (fields : List Byte) (k : TableId) (e : Entry) (s : State), Taken .load s →
    tableIds[table.toNat]? = some k → (takeEntry k fields).bind wholeBody = .ok e →
    let body := table :: index :: 1#8 :: fields
    if tableSize k ≤ index.toNat then Refuses .load tag body s .noSuch .none []
    else match entryError e with
      | some err => Refuses .load tag body s .badValue .field [table.toNat, index.toNat, err.field, err.step]
      | none =>
        if (k = .detector ∨ k = .flow) ∧ entryAt s.tables k index.toNat = none ∧
            62 ≤ s.tables.detectors.length + s.tables.flows.length then
          Refuses .load tag body s .tableFull .none []
        else Completes .load tag body s (.accepted .nothing) [] [.tables] fun t =>
          entryAt t.tables k index.toNat = some e ∧
          ∀ k' n, ¬ (k' = k ∧ n = index.toNat) → entryAt t.tables k' n = entryAt s.tables k' n

/-- R3 to R10: an entry is accepted by LOAD just when its fields lie in the ranges of its field table and agree as that table
says. That a step's point above 127 is refused here is the model's (log 38). -/
def Obligations.EntryRangesAreExact : Prop :=
  (∀ e : DuctEntry, entryError (.duct e) = none ↔
    e.group ≤ 5 ∧ e.compartment ≤ 7 ∧ e.infeedOut ≤ 127 ∧ 1 ≤ e.flowAddr ∧ e.flowAddr ≤ 62 ∧ 300 ≤ e.vMin ∧
    e.vMin ≤ 3000 ∧ e.vMin < e.vMax ∧ e.vMax ≤ 6000 ∧ e.tolerance ≤ 50 ∧ e.shift ≤ 7 ∧ 200 ≤ e.staleTime ∧
    e.staleTime ≤ 5000 ∧ 500 ≤ e.wMax ∧ e.wMax ≤ 30000 ∧ 1000 ≤ e.quiet ∧ e.quiet ≤ 600000 ∧ 2 ≤ e.n1 ∧ e.n1 ≤ 16 ∧
    100 ≤ e.s1 ∧ e.s1 ≤ 60000 ∧ e.n1 ≤ e.n2 ∧ e.n2 ≤ 16 ∧ 100 ≤ e.s2 ∧ e.s2 ≤ 60000 ∧ e.escalation ≤ 600 ∧
    e.crossings.length ≤ 3 ∧ (∀ w ∈ e.crossings, w ≤ 11) ∧ e.crossings.Nodup) ∧
  (∀ e : DetectorEntry, entryError (.detector e) = none ↔
    1 ≤ e.addr ∧ e.addr ≤ 62 ∧ e.duct ≤ 15 ∧ (e.role = .upstream ↔ e.dist ≠ none) ∧
    (∀ x, e.dist = some x → 50 ≤ x ∧ x ≤ 6000) ∧ ∀ x, e.gateDist = some x → 50 ≤ x ∧ x ≤ 12000) ∧
  (∀ e : FlowEntry, entryError (.flow e) = none ↔
    1 ≤ e.addr ∧ e.addr ≤ 62 ∧ e.duct ≤ 15 ∧ 50 ≤ e.period ∧ e.period ≤ 500) ∧
  (∀ e : ValveEntry, entryError (.valve e) = none ↔
    e.output ≤ 127 ∧ e.pressureIn ≤ 127 ∧ e.lead ≤ 500 ∧ e.afterRun ≤ 5000 ∧ 50 ≤ e.settle ∧ e.settle ≤ 2000 ∧
    e.minOff ≤ 1000 ∧ ∀ x, e.monitor = some x → x ≤ 47) ∧
  (∀ e : GateEntry, entryError (.gate e) = none ↔
    e.output ≤ 127 ∧ e.positionIn ≤ 127 ∧ 100 ≤ e.travel ∧ e.travel ≤ 5000) ∧
  (∀ e : CompartmentEntry, entryError (.compartment e) = none ↔ e.spanStart ≤ 15 ∧ e.spanEnd ≤ 15 ∧ e.margin ≤ 15) ∧
  (∀ e : GroupEntry, entryError (.group e) = none ↔
    e.fanOut ≤ 127 ∧ e.fanIn ≤ 127 ∧ 1 ≤ e.fanTimeout ∧ e.fanTimeout ≤ 120 ∧ e.aux.length ≤ 8 ∧
    (∀ a ∈ e.aux, a.output ≤ 127 ∧ ∀ x, a.feedback = some x → x ≤ 127) ∧
    ∀ steps ∈ [e.shutdown, e.restart], 1 ≤ steps.length ∧ steps.length ≤ 12 ∧
      (∀ p on, .drive p on ∈ steps → p ≤ 127) ∧ (∀ p made t, .await p made t ∈ steps → p ≤ 127 ∧ t ≤ 600) ∧
      ∀ d, .pause d ∈ steps → d ≤ 600) ∧
  (∀ e : WallEntry, entryError (.wall e) = none ↔
    e.compA ≤ 7 ∧ (∀ x, e.compB = some x → x ≤ 7 ∧ x ≠ e.compA) ∧ e.warning ≤ 20 ∧ e.holderOut ≤ 127 ∧
    e.beaconOut ≤ 127 ∧ (∀ x, e.monitor = some x → x ≤ 47) ∧ 1 ≤ e.doorTime ∧ e.doorTime ≤ 60 ∧ 1 ≤ e.damperTime ∧
    e.damperTime ≤ 60 ∧ e.doors.length ≤ 4 ∧ ∀ p ∈ e.doors, p ≤ 127) ∧
  (∀ e : CrossingEntry, entryError (.crossing e) = none ↔
    e.duct ≤ 15 ∧ e.wall ≤ 11 ∧ e.holdOut ≤ 127 ∧ e.closedIn ≤ 127) ∧
  (∀ e : SirenEntry, entryError (.siren e) = none ↔
    e.sector ≤ 15 ∧ e.output ≤ 127 ∧ ∀ x, e.monitor = some x → x ≤ 47) ∧
  (∀ e : PatternEntry, entryError (.pattern e) = none ↔
    e.onTime ≤ 10000 ∧ (e.offTime = 0 ∨ e.onTime ≠ 0) ∧ e.offTime ≤ 10000) ∧
  (∀ e : PlanEntry, entryError (.plan e) = none ↔
    e.hour ≤ 23 ∧ e.minute ≤ 59 ∧ 1 ≤ e.duration ∧ e.duration ≤ 120) ∧
  (∀ e : MonitorEntry, entryError (.monitor e) = none ↔
    e.channel ≤ 47 ∧ e.offLow ≤ e.offHigh ∧ e.offHigh ≤ 1023 ∧ e.onLow ≤ e.onHigh ∧ e.onHigh ≤ 1023 ∧ 1 ≤ e.filter ∧
    e.filter ≤ 15 ∧ e.blanking ≤ 500) ∧
  ∀ e : Nat, entryError (.debounce e) = none ↔ e ≤ 255

/-- R11 to R14, COMMIT refused: the first of the seven checks that fails, in their order, and of its failures the first one
that the scan finds, in the order of the tables, of the entries and of the fields and steps within an entry, give a refusal
BAD-VALUE that names them, and nothing changes. `FailsAt` lists the failures of each check, and a check fails just when one
of them stands. The field named beside the entry is logs 14 and 15. -/
def Obligations.CommitRefusesFirstFailedCheck : Prop :=
  (∀ tag s (check : Nat), Taken .commit s → TablesRise s.tables → (∀ k, k < check → CheckHolds s.tables k) →
    ¬ CheckHolds s.tables check →
    ∃ table entry rank field step, FailsAt s.tables check table entry rank field step ∧
      (∀ table' entry' rank' field' step', FailsAt s.tables check table' entry' rank' field' step' →
        ¬ table' :: entry' :: rank' < table :: entry :: rank) ∧
      Refuses .commit tag [] s .badValue .field [check, table, entry, field, step]) ∧
  ∀ m check, ¬ CheckHolds m check ↔ ∃ table entry rank field step, FailsAt m check table entry rank field step

/-- R11, R15, R16, R175, COMMIT accepted: when all seven checks pass, the blocks take a copy of the tables and build their
run state, and the mode becomes RUN. In the output image the fan run and infeed release outputs of the groups whose fan
feedback is made, the holder outputs and the damper hold outputs are on, an auxiliary output keeps its level, and every
other point is off. A host read in the slot ends with NO-ANSWER (R34). That an owed ACK is kept is the model's (log 21), and
so are that an open answer slot is closed (log 40), that a monitor's blanking runs also where its time is 0 (log 29), the
order of two notices of one event (log 22), and that HOST-LOST and the STATUS of a host read are all that is noticed: not
the loop's return to UP, the end of a duct's blindness or a device record's return to UNKNOWN (log 54), nor a record of
another block that is built in another state than the one it replaces (log 55). -/
def Obligations.CommitBuildsRunState : Prop :=
  ∀ tag s, Taken .commit s → (∀ k, CheckHolds s.tables k) →
    Happens (.commit tag []) s [.lp, .model, .lc, .tc, .vg, .it, .gs, .cc, .sc, .pi, .cm] fun t =>
      t.model = s.tables ∧ RecordsFollowModel t ∧
      t.lp = { posted (foundNotice s ++ unansweredRead s) s with
        mode := .run
        replies := s.lp.replies ++ [replyOf 0x04#8 tag (.accepted .nothing)]
        receiver := .hunting
        hostLost := none
        hostLostExpiry := expiryAfterFrame .run s.lp.linkTimeout s.now } ∧
      Table.wf t.lc.roster = true ∧
      (∀ a r, Table.get t.lc.roster a = some r → r.state = .unknown ∧ r.misses = 0 ∧ r.flags = none ∧
        r.toggle = none ∧ r.status = none ∧ r.withheld = 0 ∧ r.pollDue = true ∧ r.pollAt = s.now) ∧
      (∀ n e, (n, e) ∈ s.tables.detectors → ∃ r, Table.get t.lc.roster e.addr = some r ∧ r.kind = .detector e.role ∧
        r.duct = e.duct ∧ r.period = 500) ∧
      (∀ n e, (n, e) ∈ s.tables.flows → ∃ r, Table.get t.lc.roster e.addr = some r ∧ r.kind = .flow ∧
        r.duct = e.duct ∧ r.period = e.period) ∧
      t.lc.state = .up ∧ t.lc.powered = true ∧ t.lc.retry = none ∧ t.lc.silence = some (s.now + 1000#32) ∧
      t.lc.slot = none ∧ t.lc.autoReads = [] ∧ t.lc.errors = s.lc.errors ∧ t.lc.foreign = s.lc.foreign ∧
      t.lc.ackOwed = s.lc.ackOwed ∧ t.lc.answerSlot = none ∧
      t.lc.walks = (s.tables.ducts.map fun e => (e.1, {
        active := false, expiry := none, startedAt := none, sparks := 0, seen := [] })) ∧
      (∀ e ∈ t.tc, e.2 = { vf := none, raw := none, readAt := none, stale := none, state := .stale,
                           transit := none }) ∧
      (∀ e ∈ t.vg.valves, e.2 = { state := .idle, failed := false, circuit := false, isolated := false, queue := [],
                                  flowed := false, settleRan := false, openExpiry := none, closeExpiry := none,
                                  settleExpiry := none, last := none, refusals := 0 }) ∧
      (∀ e ∈ t.vg.gates, e.2 = { state := .normal, commanded := false, travel := none, isolated := false,
                                 pending := none }) ∧
      t.it.incidents = [] ∧ t.it.lastId = 0 ∧ (∀ e ∈ t.it.sparks, e.2 = { ring := [], total := 0, wrapped := false }) ∧
      t.gs = (s.tables.groups.map fun e => (e.1, {
        state := if inputMade s e.2.fanIn then .running else .stopped, priority := none, source := none,
        runner := none, fault := none, lastRun := none, isolated := false, refusals := 0 })) ∧
      t.cc.walls = (s.tables.walls.map fun e => (e.1, {
        state := .normal, causes := { incident := false, manual := false, circuit := false }, warning := none,
        holder := .normal, isolated := false, refusals := 0, releasedAt := none,
        doors := e.2.doors.map fun p => { state := if inputMade s p then .shut else .openHeld, expiry := none } })) ∧
      t.cc.crossings = (s.tables.crossings.map fun e => (e.1, {
        state := if inputMade s e.2.closedIn then .closed else .opened, expiry := none })) ∧
      (∀ e ∈ t.sc.sirens, e.2 = { demands := [], testDemand := false, sounding := none, phase := none,
                                  cadence := none, fault := false, testFault := false, isolated := false }) ∧
      t.sc.test = none ∧ t.sc.clock = s.sc.clock ∧ t.sc.nextAdvance = s.sc.nextAdvance ∧
      t.cm = (s.tables.monitors.map fun e => (e.1, {
        state := .normal, candidate := none, count := 0,
        blanking := some (s.now + BitVec.ofNat 32 e.2.blanking) })) ∧
      t.pi.debounced = s.pi.debounced ∧ t.pi.raw = s.pi.raw ∧ t.pi.debounceTime = s.tables.debounce ∧
      t.pi.timing = s.pi.timing.map (fun e => (e.1, s.now)) ∧
      t.pi.outChain = s.pi.outChain ∧ t.pi.inChain = s.pi.inChain ∧
      ∀ p, p < 128 → (levelOf t.pi.out p = true ↔
        (∃ g e, (g, e) ∈ s.tables.groups ∧ inputMade s e.fanIn = true ∧
          (p = e.fanOut ∨ ∃ d ∈ s.tables.ducts, d.2.group = g ∧ p = d.2.infeedOut)) ∨
        (∃ w ∈ s.tables.walls, p = w.2.holderOut) ∨ (∃ c ∈ s.tables.crossings, p = c.2.holdOut) ∨
        (∃ g ∈ s.tables.groups, ∃ a ∈ g.2.aux, p = a.output) ∧ levelOf s.pi.out p = true)

/-! ## The queries -/

/-- R36, R53, R69, R98, R117, R132, R149, R167, R181: the queries return the records, figures and levels named, absent where
there is none, and change nothing, but for QUERY-DUCT with the clear option, which then clears the spark counter and the wrap
flag; a number beyond its table, or with nothing to return, is refused NO-SUCH as each rule says. QUERY-LINK answers as
things stand once its frame has been taken. The body forms of QUERY-DUCT, QUERY-INCIDENT, QUERY-SIREN and QUERY-LOOP are the
model's (log 8), and so is that a duct beyond 15 is refused NO-SUCH (log 12); what stands for the levels of a record that is
absent is log 24. -/
def Obligations.QueriesReturnTheRecords : Prop :=
  ((∀ tag (d : Byte) s, Taken .queryValve s →
     if 16 ≤ d.toNat then Refuses .queryValve tag [d] s .noSuch .none []
     else Completes .queryValve tag [d] s
       (.accepted (.valve (Table.get s.vg.valves d.toNat) (Table.get s.vg.gates d.toNat))) [] [] fun _ => True) ∧
   (∀ tag (g : Byte) s, Taken .queryGroup s →
     (6 ≤ g.toNat → Refuses .queryGroup tag [g] s .noSuch .none []) ∧
     (g.toNat < 6 → Table.get s.model.groups g.toNat = none →
       Completes .queryGroup tag [g] s (.accepted (.group none [] [] none [])) [] [] fun _ => True) ∧
     (∀ e, g.toNat < 6 → Table.get s.model.groups g.toNat = some e →
       Completes .queryGroup tag [g] s
         (.accepted (.group (Table.get s.gs g.toNat)
           ((ownedPoints s.model g.toNat e).map fun p => (p, levelOf s.pi.out p))
           (e.aux.map fun a => (a.output, levelOf s.pi.out a.output)) (Table.get s.pi.debounced e.fanIn)
           ((e.aux.filterMap fun a => a.feedback).map fun p => (p, Table.get s.pi.debounced p)))) [] [] fun _ => True)) ∧
   (∀ tag (w : Byte) s, Taken .queryWall s →
     (12 ≤ w.toNat → Refuses .queryWall tag [w] s .noSuch .none []) ∧
     (w.toNat < 12 → Table.get s.model.walls w.toNat = none →
       Completes .queryWall tag [w] s (.accepted (.wall none false false [] [] [])) [] [] fun _ => True) ∧
     (∀ e, w.toNat < 12 → Table.get s.model.walls w.toNat = some e →
       (∀ c ∈ s.model.crossings, Table.get s.cc.crossings c.1 ≠ none) →
       ∃ views, Completes .queryWall tag [w] s
         (.accepted (.wall (Table.get s.cc.walls w.toNat) (levelOf s.pi.out e.holderOut) (levelOf s.pi.out e.beaconOut)
           ((s.model.crossings.filter fun c => c.2.wall = w.toNat).map fun c => levelOf s.pi.out c.2.holdOut)
           (e.doors.map (Table.get s.pi.debounced)) views)) [] [] (fun _ => True) ∧
         views.length = (s.model.crossings.filter fun c => c.2.wall = w.toNat).length ∧
         ∀ (k : Nat) c r, (s.model.crossings.filter fun c => c.2.wall = w.toNat)[k]? = some c →
           Table.get s.cc.crossings c.1 = some r →
           views[k]? = some { crossing := c.1, duct := c.2.duct, state := r.state, expiry := r.expiry,
                              level := Table.get s.pi.debounced c.2.closedIn })) ∧
   ∀ tag s, Taken .querySiren s →
     Completes .querySiren tag [255#8] s (.accepted (.sirenTest s.sc.test s.sc.clock s.model.plan)) [] []
       (fun _ => True) ∧
     ∀ n : Byte, n ≠ 255#8 →
       (16 ≤ n.toNat → Refuses .querySiren tag [n] s .noSuch .none []) ∧
       (n.toNat < 16 → Table.get s.sc.sirens n.toNat = none →
         Completes .querySiren tag [n] s (.accepted (.siren none)) [] [] fun _ => True) ∧
       ∀ r e, n.toNat < 16 → Table.get s.sc.sirens n.toNat = some r → Table.get s.model.sirens n.toNat = some e →
         Completes .querySiren tag [n] s (.accepted (.siren (some (r, e.sector, levelOf s.pi.out e.output)))) [] []
           fun _ => True) ∧
  ((∀ tag (d clear : Byte) s, Taken .queryDuct s → clear.toNat < 2 →
     if 16 ≤ d.toNat then Refuses .queryDuct tag [d, clear] s .noSuch .none []
     else Completes .queryDuct tag [d, clear] s
       (.accepted (.duct (Table.get s.tc d.toNat) (Table.get s.it.sparks d.toNat)
         ((incidentOf s (.duct d.toNat)).map fun i => i.id) (Table.get s.lc.walks d.toNat))) [] [.it] fun t =>
       t.it = if clear.toNat = 1
         then { s.it with sparks := Table.modify s.it.sparks d.toNat fun r => { r with total := 0, wrapped := false } }
         else s.it) ∧
   (∀ tag (x : Byte) s, Taken .queryIncident s →
     Completes .queryIncident tag [0#8, x] s
       (.accepted (.incidents (s.it.incidents.map fun i =>
         { id := i.id, level := i.level, acked := i.acked, primary := i.primary.id }))) [] [] fun _ => True) ∧
   (∀ tag (x : Byte) s, Taken .queryIncident s →
     (∀ i, findIncident s x.toNat = some i →
       Completes .queryIncident tag [1#8, x] s (.accepted (.incident i s.now)) [] [] fun _ => True) ∧
     ((∀ i ∈ s.it.incidents, i.id ≠ x.toNat) → Refuses .queryIncident tag [1#8, x] s .noSuch .none [])) ∧
   (∀ tag (a : Byte) s, Taken .queryLoop s →
     let view : LoopView := { state := s.lc.state, errors := s.lc.errors, foreign := s.lc.foreign, slot := s.lc.slot,
                              autoReads := s.lc.autoReads, blind := blindDucts s }
     (a = 255#8 → Completes .queryLoop tag [a] s (.accepted (.loop view none)) [] [] fun _ => True) ∧
     (a ≠ 255#8 → Table.get s.lc.roster a.toNat = none → Refuses .queryLoop tag [a] s .noSuch .none []) ∧
     ∀ r, a ≠ 255#8 → Table.get s.lc.roster a.toNat = some r →
       Completes .queryLoop tag [a] s (.accepted (.loop view (some r))) [] [] fun _ => True) ∧
   ∀ tag s, Taken .queryLink s → ∃ v, Completes .queryLink tag [] s (.accepted (.link v)) [] [] fun t =>
     v.mode = t.lp.mode ∧ v.linkTimeout = t.lp.linkTimeout ∧ v.attnThreshold = t.lp.attnThreshold ∧
     v.errors = t.lp.errors ∧ v.hostLost = t.lp.hostLost.isSome ∧ v.hostLostExpiry = t.lp.hostLostExpiry ∧
     v.notices = t.lp.notices.length ∧ v.alarms = (t.lp.notices.filter fun n => n.cls = .alarm).length ∧
     v.faults = (t.lp.notices.filter fun n => n.cls = .fault).length ∧
     v.states = (t.lp.notices.filter fun n => n.cls = .state).length ∧ v.overrun = t.lp.overrun ∧
     v.nextSeq = t.lp.nextSeq ∧ v.lines = t.lines ∧ (∀ c, c ∈ v.conditions ↔ presented t c = true) ∧ v.time = t.now ∧
     v.clock = t.sc.clock)

/-! ## The calendar clock and the sirens -/

/-- R145, SET-CLOCK: the first field outside its range is named in a refusal; else every field is replaced, the clock set
flag is set and the next advance falls 1000 ms after the request; the setting is no minute change. R144, R146, CLOCK_ADVANCE:
the clock goes on by one second, carrying into minute, hour, day and weekday; only an advance that brings the second to 0
judges the scheduled test, in RUN with the clock set and the plan enabled and due: skipped for an incident at level 2 or 3 or
for a running test, else started with source SCHEDULED for the plan's time, each siren not isolated given a test demand and
its mark (R147), with its notice; what the sirens then sound is SirenTestsRun. -/
def Obligations.ClockIsSetAndAdvances : Prop :=
  (∀ tag (dayHigh dayLow weekday hour minute second : Byte) s, Taken .setClock s →
     let body := [dayHigh, dayLow, weekday, hour, minute, second]
     if 6 < weekday.toNat then Refuses .setClock tag body s .badValue .field [1]
     else if 23 < hour.toNat then Refuses .setClock tag body s .badValue .field [2]
     else if 59 < minute.toNat then Refuses .setClock tag body s .badValue .field [3]
     else if 59 < second.toNat then Refuses .setClock tag body s .badValue .field [4]
     else Completes .setClock tag body s (.accepted .nothing) [] [.sc] fun t =>
       t.sc = { s.sc with
         clock := { time := { day := wordOf dayHigh dayLow, weekday := weekday.toNat, hour := hour.toNat,
                              minute := minute.toNat, second := second.toNat }, isSet := true }
         nextAdvance := s.now + 1000#32 }) ∧
  (∀ s : State, HasRunOut (some s.sc.nextAdvance) s.now →
     let c := s.sc.clock.time
     let next : Stamp :=
       if c.second < 59 then { c with second := c.second + 1 }
       else if c.minute < 59 then { c with second := 0, minute := c.minute + 1 }
       else if c.hour < 23 then { c with second := 0, minute := 0, hour := c.hour + 1 }
       else { day := if c.day < 65535 then c.day + 1 else 0, weekday := (c.weekday + 1) % 7, hour := 0, minute := 0,
              second := 0 }
     let advanced : State := { s with sc := { s.sc with
       clock := { s.sc.clock with time := next }, nextAdvance := s.sc.nextAdvance + 1000#32 } }
     let falls : Prop := next.second = 0 ∧ s.lp.mode = .run ∧ s.sc.clock.isSet = true ∧ ∃ p, s.model.plan = some p ∧
       p.enabled = true ∧ p.weekdays.getLsbD next.weekday = true ∧ next.hour = p.hour ∧ next.minute = p.minute
     (¬ falls → Happens .clockAdvance s [.sc] fun t => t.sc = advanced.sc) ∧
     (falls → (∃ i ∈ s.it.incidents, 2 ≤ i.level) → Happens .clockAdvance s [.lp, .sc] fun t =>
       t.sc = advanced.sc ∧ t.lp = posted [(.state, .testSkipped .incident)] s) ∧
     (falls → (∀ i ∈ s.it.incidents, i.level < 2) → s.sc.test ≠ none → Happens .clockAdvance s [.lp, .sc] fun t =>
       t.sc = advanced.sc ∧ t.lp = posted [(.state, .testSkipped .testRunning)] s) ∧
     ∀ p, falls → s.model.plan = some p → (∀ i ∈ s.it.incidents, i.level < 2) → s.sc.test = none →
       Happens .clockAdvance s [.lp, .sc, .pi, .cm] fun t =>
         Same [.lp, .sc, .pi, .cm] (startTest .scheduled p.duration advanced) t ∧
         t.sc.test = some (.scheduled, s.now + BitVec.ofNat 32 (p.duration * 1000)) ∧ t.sc.clock = advanced.sc.clock ∧
         t.sc.nextAdvance = advanced.sc.nextAdvance ∧ t.lp = posted [(.state, .testStarted .scheduled p.duration)] s ∧
         ∀ n r, Table.get s.sc.sirens n = some r → Table.wf s.sc.sirens = true →
           ∃ r', Table.get t.sc.sirens n = some r' ∧ r'.isolated = r.isolated ∧ r'.demands = r.demands ∧
             (r.isolated = false → r'.testDemand = true ∧ r'.testFault = r.fault) ∧ (r.isolated = true → r' = r))

/-- R134, R135: the plain span runs from start to end counting upward round the ring of 16 sectors; the widened span adds the
margin on both sides, or is the whole ring when plain length and twice the margin reach 16, and holds the plain one. R139:
IT's ALERT for a compartment goes to the sirens whose sector is in its plain span, its EVACUATE to those in the widened one:
a siren that is isolated takes nothing, one with a demand of the incident has it raised, any other gains one, with the
incident's SILENCED flag, at the place of the incident's age; the result is ISOLATED when the span holds sirens and all of
them are isolated, else DONE. R137, R138: when the demand sets of sirens are changed, each siren changed selects its pattern
anew by the table: a different pattern starts at ON with the on time, or STEADY when its off time is 0, and none stops the
cadence; the same pattern runs on. No other siren changes. The output of a siren that takes a different pattern is written,
on for a pattern and off for none, in the order of the sirens; no other point is written, so neither that of a siren outside
the list nor that of one whose pattern runs on. -/
def Obligations.SirensSelectAndStartCadence : Prop :=
  (∀ (e : CompartmentEntry) (sector : Nat), e.spanStart < 16 → e.spanEnd < 16 → sector < 16 →
     (inPlain e sector = true ↔ ∃ k, k ≤ (e.spanEnd + 16 - e.spanStart) % 16 ∧ sector = (e.spanStart + k) % 16) ∧
     (e.margin < 16 → (inWidened e sector = true ↔
       16 ≤ (e.spanEnd + 16 - e.spanStart) % 16 + 1 + 2 * e.margin ∨
       ∃ k, k ≤ (e.spanEnd + 16 - e.spanStart) % 16 + 2 * e.margin ∧
         (sector + e.margin) % 16 = (e.spanStart + k) % 16)) ∧
     (inPlain e sector = true → e.margin < 16 → inWidened e sector = true)) ∧
  (∀ (m : MillModel) (c sector : Nat) (ev : Bool),
     (Table.get m.compartments c = none → inDemandSpan m c ev sector = false) ∧
     ∀ e, Table.get m.compartments c = some e →
       inDemandSpan m c ev sector = if ev = true then inWidened e sector else inPlain e sector) ∧
  (∀ (id c : Nat) (ev : Bool) (s : State) (i : Incident), findIncident s id = some i →
     let ns := (s.sc.sirens.map fun e => e.1).filter fun n =>
       (Table.get s.model.sirens n).any fun e => inDemandSpan s.model c ev e.sector
     let age (n : Nat) : Nat := (s.it.incidents.map fun j => j.id).findIdx fun x => x == n
     let d := sirenDemand id c ev s
     (d.2 = .isolated ↔ ns ≠ [] ∧ ∀ n ∈ ns, ∃ r, Table.get s.sc.sirens n = some r ∧ r.isolated = true) ∧
     (d.2 = .isolated ∨ d.2 = .done) ∧
     ∃ f : Siren → Siren, d.1 = eachSiren ns f s ∧ ∀ r,
       (r.isolated = true → f r = r) ∧
       (r.isolated = false → (∃ x ∈ r.demands, x.incident = id) → f r = { r with demands := r.demands.map fun x =>
         if x.incident = id then { x with evacuate := x.evacuate || ev } else x }) ∧
       (r.isolated = false → (∀ x ∈ r.demands, x.incident ≠ id) → ∃ older newer, r.demands = older ++ newer ∧
         f r = { r with demands :=
           older ++ { incident := id, evacuate := ev, silenced := i.flags.silenced } :: newer } ∧
         (∀ x ∈ older, age x.incident ≤ age id) ∧ ∀ x rest, newer = x :: rest → age id < age x.incident)) ∧
  ∀ (ns : List Nat) (f : Siren → Siren) (s : State), ns.Nodup →
    let t := eachSiren ns f s
    let writes : List (Nat × Bool) := ns.flatMap fun n =>
      match Table.get s.sc.sirens n, Table.get t.sc.sirens n, Table.get s.model.sirens n with
      | some r, some r', some e => if r'.sounding = (f r).sounding then [] else [(e.output, r'.sounding.isSome)]
      | _, _, _ => []
    Frame [.sc, .pi, .cm] s t ∧ Wrote writes s t ∧ t.lp = s.lp ∧ t.sc.test = s.sc.test ∧ t.sc.clock = s.sc.clock ∧
    (∀ n, n ∉ ns → Table.get t.sc.sirens n = Table.get s.sc.sirens n) ∧
    (∀ n r, n ∈ ns → Table.get s.sc.sirens n = some r → ∃ r', Table.get t.sc.sirens n = some r' ∧
      r' = { f r with sounding := r'.sounding, phase := r'.phase, cadence := r'.cadence } ∧
      Selects (f r) r'.sounding ∧
      (r'.sounding = (f r).sounding → r' = f r) ∧
      (r'.sounding ≠ (f r).sounding → r'.sounding = none → r'.phase = none ∧ r'.cadence = none) ∧
      (∀ p, r'.sounding ≠ (f r).sounding → r'.sounding = some p →
        if (patternTimes s.model p).offTime = 0 then r'.phase = some .steady ∧ r'.cadence = none
        else r'.phase = some .on ∧
          r'.cadence = some (s.now + BitVec.ofNat 32 (patternTimes s.model p).onTime)) ∧
      ∀ e, Table.get s.model.sirens n = some e → e.output < 128 → r'.sounding ≠ (f r).sounding →
        (∀ k x, k ≠ n → Table.get s.model.sirens k = some x → x.output ≠ e.output) →
        (levelOf t.pi.out e.output = true ↔ r'.sounding ≠ none)) ∧
    ∀ p, (∀ n e, Table.get s.model.sirens n = some e → e.output ≠ p) → levelOf t.pi.out p = levelOf s.pi.out p

/-- R147, TEST-SIRENS: refused while an incident is at level 2 or 3, then while a test runs; else the test is running with
source HOST for the committed plan's time, or 10 s; each siren not isolated is given a test demand, its mark set from its
fault flag, and selects anew (the selection is SirensSelectAndStartCadence), and TEST-STARTED names source and time; a test
starts so whatever its source. TEST_EXPIRY ends a running test with a TEST-RESULT that lists the marked sirens, removes every
test demand and clears the marks. R138, CADENCE_EXPIRY flips the phase of a sounding siren between ON and OFF, with the
pattern's time, and its output with it. R148: an incident's entry to level 2 or above from below level 2 first ends a running
test, with a TEST-INTERRUPTED notice that lists the marked sirens and names INCIDENT; that it does so before the demands of
the entry are taken is the model's (log 48). -/
def Obligations.SirenTestsRun : Prop :=
  (∀ tag s, Taken .testSirens s →
     ((∃ i ∈ s.it.incidents, 2 ≤ i.level) → Refuses .testSirens tag [] s .badState .incident []) ∧
     ((∀ i ∈ s.it.incidents, i.level < 2) → s.sc.test ≠ none → Refuses .testSirens tag [] s .badState .testRunning []) ∧
     ∀ duration, (∀ i ∈ s.it.incidents, i.level < 2) → s.sc.test = none →
       duration = ((s.model.plan.map fun p => p.duration).getD 10) →
       Completes .testSirens tag [] s (.accepted (.duration duration)) [(.state, .testStarted .host duration)]
         [.sc, .pi, .cm] fun t =>
         t.sc.test = some (.host, s.now + BitVec.ofNat 32 (duration * 1000)) ∧ t.sc.clock = s.sc.clock ∧
         t.sc.nextAdvance = s.sc.nextAdvance ∧
         Same [.pi, .cm] (eachSiren ((s.sc.sirens.map fun e => e.1).filter fun n =>
             (Table.get s.sc.sirens n).any fun r => !r.isolated)
           (fun r => { r with testDemand := true, testFault := r.fault }) s) t ∧
         t.sc.sirens = (eachSiren ((s.sc.sirens.map fun e => e.1).filter fun n =>
             (Table.get s.sc.sirens n).any fun r => !r.isolated)
           (fun r => { r with testDemand := true, testFault := r.fault }) s).sc.sirens) ∧
  (∀ source duration s,
     let t := startTest source duration s
     let given := eachSiren ((s.sc.sirens.map fun e => e.1).filter fun n =>
         (Table.get s.sc.sirens n).any fun r => !r.isolated)
       (fun r => { r with testDemand := true, testFault := r.fault }) s
     Frame [.lp, .sc, .pi, .cm] s t ∧ t.lp = posted [(.state, .testStarted source duration)] s ∧
     t.sc.test = some (source, s.now + BitVec.ofNat 32 (duration * 1000)) ∧ t.sc.clock = s.sc.clock ∧
     t.sc.nextAdvance = s.sc.nextAdvance ∧ t.sc.sirens = given.sc.sirens ∧ Same [.pi, .cm] given t) ∧
  ((∀ id old new os brought s, old < 2 → 2 ≤ new →
     let entered := level2Actions id os brought (interruptTest false s)
     enterLevels id old new os brought s = if new = 2 then entered else level3Actions id os entered) ∧
   (∀ s, s.sc.test = none → interruptTest false s = s) ∧
   (∀ s source expiry, s.sc.test = some (source, expiry) →
     let t := interruptTest false s
     let stopped := eachSiren (s.sc.sirens.map fun e => e.1) (fun r => { r with testDemand := false }) s
     Frame [.lp, .sc, .pi, .cm] s t ∧ t.sc.test = none ∧ t.sc.clock = s.sc.clock ∧ t.sc.nextAdvance = s.sc.nextAdvance ∧
     t.lp = posted [(.state, .testInterrupted source
       ((s.sc.sirens.filter fun e => e.2.testFault).map fun e => e.1) false)] s ∧
     t.sc.sirens = stopped.sc.sirens.map (fun e => (e.1, { e.2 with testFault := false })) ∧ Same [.pi, .cm] stopped t) ∧
   (∀ n s r e p, Table.get s.sc.sirens n = some r → Table.get s.model.sirens n = some e → r.sounding = some p →
     HasRunOut r.cadence s.now → (r.phase = some .on ∨ r.phase = some .off) →
     Happens (.cadenceExpiry n) s [.sc, .pi, .cm] fun t =>
       t.sc = { s.sc with sirens := Table.modify s.sc.sirens n fun r =>
         if r.phase = some .on
         then { r with phase := some .off,
                       cadence := some (s.now + BitVec.ofNat 32 (patternTimes s.model p).offTime) }
         else if r.phase = some .off
         then { r with phase := some .on,
                       cadence := some (s.now + BitVec.ofNat 32 (patternTimes s.model p).onTime) }
         else { r with cadence := none } } ∧
       Wrote [(e.output, r.phase == some .off)] s t) ∧
   ∀ (s : State) source expiry, s.sc.test = some (source, expiry) → HasRunOut (some expiry) s.now →
     Happens .testExpiry s [.lp, .sc, .pi, .cm] fun t =>
       t.sc.test = none ∧ t.sc.clock = s.sc.clock ∧ t.sc.nextAdvance = s.sc.nextAdvance ∧
       t.lp = posted [(.state, .sirenTestResult source
         ((s.sc.sirens.filter fun e => e.2.testFault).map fun e => e.1))] s ∧
       t.sc.sirens = (eachSiren (s.sc.sirens.map fun e => e.1) (fun r => { r with testDemand := false }) s).sc.sirens.map
         (fun e => (e.1, { e.2 with testFault := false })) ∧
       Same [.pi, .cm] (eachSiren (s.sc.sirens.map fun e => e.1) (fun r => { r with testDemand := false }) s) t)

/-! ## Incidents (Chapter 5) -/

/-- R91, ACK: an id that no incident holds is refused NO-SUCH; an UNACKED incident becomes ACKED with its unacked expiry
stopped and a STATE notice; an ACKED one is accepted without change. The next rise, or a merge, makes it UNACKED again. -/
def Obligations.AckStopsUnackedExpiry : Prop :=
  (∀ tag (id : Byte) s, Taken .ack s →
    ((∀ i ∈ s.it.incidents, i.id ≠ id.toNat) → Refuses .ack tag [id] s .noSuch .none []) ∧
    ∀ i, findIncident s id.toNat = some i →
      (i.acked = false → Completes .ack tag [id] s (.accepted .nothing) [(.state, .incidentAcked id.toNat)] [.it]
        fun t => t.it = { s.it with incidents := s.it.incidents.map fun j =>
          if j.id = id.toNat then { j with acked := true, unacked := none } else j }) ∧
      (i.acked = true → Completes .ack tag [id] s (.accepted .nothing) [] [] fun _ => True)) ∧
  (∀ s id new causes brought i j, findIncident s id = some i → i.level < new →
    findIncident (rise id new causes brought s) id = some j → j.acked = false) ∧
  ∀ s o i brought j, findIncident s i.id = some i →
    findIncident (mergeOrigin o i brought s) i.id = some j → j.acked = false

/-- R141, SILENCE, judged in the order of its table; accepted, it silences every demand of the incident on every siren, each
of which selects anew, sets the SILENCED flag and the re-sound expiry, or discards it, and posts a STATE notice; the
incident's state, and the demands of others, are untouched. R142: the re-sound expiry that runs out undoes it with an ALARM
notice. -/
def Obligations.SilenceAndResound : Prop :=
  (∀ tag (id high low : Byte) s, Taken .silence s →
    let time := wordOf high low
    ((∀ i ∈ s.it.incidents, i.id ≠ id.toNat) → Refuses .silence tag [id, high, low] s .noSuch .none []) ∧
    ∀ i, findIncident s id.toNat = some i →
      if 3600 < time then Refuses .silence tag [id, high, low] s .badValue .field [1]
      else if i.level = 1 then Refuses .silence tag [id, high, low] s .badState .level1 []
      else Completes .silence tag [id, high, low] s (.accepted .nothing)
        [(.state, .incidentSilenced id.toNat time)] [.it, .sc, .pi, .cm] fun t =>
        t.it = { s.it with incidents := s.it.incidents.map fun j =>
          if j.id = id.toNat then { j with
            flags := { j.flags with silenced := true }
            resound := if time = 0 then none else some (s.now + BitVec.ofNat 32 (time * 1000)) } else j } ∧
        Same [.sc, .pi, .cm] (eachSiren (s.sc.sirens.map fun e => e.1) (fun r => { r with
          demands := r.demands.map fun d => if d.incident = id.toNat then { d with silenced := true } else d }) s) t) ∧
  ∀ s id i, findIncident s id = some i → HasRunOut i.resound s.now →
    Happens (.silenceResoundExpiry id) s [.lp, .it, .sc, .pi, .cm] fun t =>
      t.lp = posted [(.alarm, .incidentResounded id)] s ∧
      t.it = { s.it with incidents := s.it.incidents.map fun j =>
        if j.id = id then { j with resound := none, flags := { j.flags with silenced := false } } else j } ∧
      Same [.sc, .pi, .cm] (eachSiren (s.sc.sirens.map fun e => e.1) (fun r => { r with
        demands := r.demands.map fun d => if d.incident = id then { d with silenced := false } else d }) s) t

/-- R94, RESET-INCIDENT: the conditions in their order, each named in its refusal: held, ACKED, every origin duct quiet for
its Q, every origin duct's valve at rest; then the incident closes. R95, the close: its demands, and no other, leave every
siren, each of which selects anew (SirensSelectAndStartCadence), the gate of each origin duct whose group is RUNNING takes a
return demand, in the origin order of the record (that order is the model's: log 47), the rings of its origin ducts are
emptied, its record leaves the table, its INCIDENT notice is posted; no group is touched. R126: CC then takes the close wall
by wall, in rising number (that order is the model's too: log 47), so that the INCIDENT notice stands before the WALL-STATE
notices, as the GATE-STATE notices stand before it, by the model's order of the notices of one event (log 22): a wall in
WARNING with INCIDENT that adjoins an origin compartment, and no compartment of another level-3 incident, loses INCIDENT, and
is NORMAL again with its beacon off unless MANUAL stands; every other wall stays. -/
def Obligations.ResetClosesIncident : Prop :=
  (∀ tag (id : Byte) s, Taken .resetIncident s →
    let quiet (i : Incident) (d : Nat) : Prop := ∀ o t e, originOn i d = some o → lastSparkOf o s.now = some t →
      Table.get s.model.ducts d = some e → (e.quiet : Int) ≤ (s.now - t).toInt
    let atRest (d : Nat) : Prop := ∀ v, Table.get s.vg.valves d = some v → v.state = .idle ∧ v.queue = []
    ((∀ i ∈ s.it.incidents, i.id ≠ id.toNat) → Refuses .resetIncident tag [id] s .noSuch .none []) ∧
    ∀ i, findIncident s id.toNat = some i →
      (i.acked = false → Refuses .resetIncident tag [id] s .badState .notAcked []) ∧
      (i.acked = true → (∀ d ∈ originDucts i, Table.get s.model.ducts d ≠ none) →
        (∀ before d after, originDucts i = before ++ d :: after → (∀ x ∈ before, quiet i x) → ¬ quiet i d →
          Refuses .resetIncident tag [id] s .badState .notQuiet [d]) ∧
        ((∀ x ∈ originDucts i, quiet i x) →
          (∀ before d after, originDucts i = before ++ d :: after → (∀ x ∈ before, atRest x) → ¬ atRest d →
            Refuses .resetIncident tag [id] s .badState .valveBusy [d]) ∧
          ((∀ x ∈ originDucts i, atRest x) →
            CompletesBy .resetIncident tag [id] s (.accepted .nothing) [.vg, .it, .cc, .sc, .pi, .cm]
              (closeIncident id.toNat .reset))))) ∧
  (∀ s id way i, findIncident s id = some i →
    let t := closeIncident id way s
    let comps := originCompartments s.model i
    let returned := (originDucts i).filter fun d => (Table.get s.model.ducts d).any fun e =>
      e.gatePresent && (Table.get s.gs e.group).any fun g => g.state == .running
    let quietened := eachSiren (s.sc.sirens.map fun e => e.1) (fun r => { r with
      demands := r.demands.filter fun d => d.incident ≠ id }) s
    (∃ u, Frame [.lp, .vg, .it, .sc, .pi, .cm] s u ∧
      Same [.lp, .vg, .sc, .pi, .cm] (returned.foldl (fun v d => returnDemand d v) quietened) u ∧
      u.it.incidents = (s.it.incidents.filter fun j => j.id ≠ id) ∧ u.it.lastId = s.it.lastId ∧
      t = (s.cc.walls.map fun e => e.1).foldl (fun v w => closeAtWall comps w v) (postNotice .state
        (.incidentClosed id way i.level i.sparks ((originsOf i).map fun o => o.id)) u)) ∧
    t.it.incidents = (s.it.incidents.filter fun j => j.id ≠ id) ∧ t.it.lastId = s.it.lastId ∧
    (∀ d r, Table.get s.it.sparks d = some r → Table.get t.it.sparks d =
      some (if d ∈ originDucts i then { r with ring := [] } else r)) ∧
    t.sc = quietened.sc ∧ (∀ n r, Table.get t.sc.sirens n = some r → ∀ d ∈ r.demands, d.incident ≠ id) ∧
    t.gs = s.gs ∧ t.lc = s.lc ∧ t.tc = s.tc ∧ t.vg.valves = s.vg.valves ∧
    (∀ d, Table.get t.vg.gates d =
      if d ∈ returned then Table.get (returnDemand d s).vg.gates d else Table.get s.vg.gates d) ∧
    ∀ w r, Table.get s.cc.walls w = some r → r.state ≠ .warning → Table.get t.cc.walls w = some r) ∧
  ∀ comps w s r e, Table.get s.cc.walls w = some r → Table.get s.model.walls w = some e →
    let t := closeAtWall comps w s
    let reached : Prop := r.state = .warning ∧ r.causes.incident = true ∧
      (∃ c ∈ comps, e.compA = c ∨ e.compB = some c) ∧ ClearOver s e.compA ∧ ∀ c, e.compB = some c → ClearOver s c
    let causes : WallCauses := { r.causes with incident := false }
    (¬ reached → t = s) ∧
    (reached → r.causes.manual = true → Frame [.cc] s t ∧ t.cc.crossings = s.cc.crossings ∧
      Table.get t.cc.walls w = some { r with causes := causes } ∧
      ∀ x, x ≠ w → Table.get t.cc.walls x = Table.get s.cc.walls x) ∧
    (reached → r.causes.manual = false → Frame [.lp, .cc, .pi, .cm] s t ∧ t.cc.crossings = s.cc.crossings ∧
      Wrote [(e.beaconOut, false)] s t ∧ t.lp = posted [(.state, .wallState w .warning .normal causes)] s ∧
      Table.get t.cc.walls w = some { r with state := .normal, warning := none, causes := causes } ∧
      ∀ x, x ≠ w → Table.get t.cc.walls x = Table.get s.cc.walls x)

/-- R77, R82, R85, R96, R97, where a new origin goes: into an incident opened at the end of the table with the next id after
the last allocated, from 1 to 255 and round, that no incident holds; for a full table, the oldest incident at level 1 is
closed for it; with none, it is merged into the incident with room, sharing its compartment if any does, of the highest
level, the oldest of those. An opening takes the actions of the levels it enters (RiseTakesEachLevel), starts the unacked
expiry at level 2, and posts its INCIDENT notice last, ALARM at level 2 or 3, else STATE; a merge makes the incident UNACKED
and unsilenced, takes the actions of its level for the new origin alone, and posts its ALARM notice. R85, MANUAL-ALARM: a
compartment absent from the committed model is refused NO-SUCH; one that is an origin raises its incident to 3 with cause
MANUAL; any other opens an incident at level 3, or is merged into one that is then raised. The reply names the incident. -/
def Obligations.NewOriginsArePlaced : Prop :=
  (∀ s o level cause brought, Bounds s →
     let placed := placeOrigin o level cause brought s
     let t := placed.1
     let id := placed.2.1
     let next (n : Nat) : Nat := if 255 ≤ n then 1 else n + 1
     (s.it.incidents.length < 16 → placed.2.2 = true ∧ 1 ≤ id ∧ id ≤ 255 ∧ (∀ i ∈ s.it.incidents, i.id ≠ id) ∧
       t.it.lastId = id ∧
       (∃ k, id = Nat.repeat next (k + 1) s.it.lastId ∧
         ∀ j, j < k → ∃ i ∈ s.it.incidents, i.id = Nat.repeat next (j + 1) s.it.lastId) ∧
       (∃ unacked, (level = 2 → Starts s o unacked) ∧ (level ≠ 2 → unacked = none) ∧
         let i : Incident := {
           id := id, level := level, acked := false, unacked := unacked, quiet := none, resound := none
           primary := { id := o, lastSpark := none, held := false, source := none }, merged := []
           openedAt := s.now, stamp := if s.sc.clock.isSet then some s.sc.clock.time else none, lastSpark := none
           sparks := 0, causes := [cause], actions := [], further := 0
           flags := { marginal := false, gateLate := false, merged := false, isolatedAction := false,
                      silenced := false } }
         t = postNotice (if 2 ≤ level then .alarm else .state) (.incidentOpened id o level cause)
           (enterLevels id 0 level [i.primary] brought
             { s with it := { s.it with incidents := s.it.incidents ++ [i], lastId := id } })) ∧
       ∃ before i, t.it.incidents = before ++ [i] ∧ before.map (fun j => j.id) = s.it.incidents.map (fun j => j.id) ∧
         i.id = id ∧ i.level = level ∧ i.acked = false ∧ i.primary.id = o ∧ i.merged = [] ∧ i.openedAt = s.now ∧
         i.stamp = (if s.sc.clock.isSet then some s.sc.clock.time else none) ∧ i.sparks = 0 ∧ i.causes = [cause] ∧
         i.quiet = none ∧ i.resound = none) ∧
     (s.it.incidents.length = 16 → ∀ before old after, s.it.incidents = before ++ old :: after → old.level = 1 →
       (∀ i ∈ before, i.level ≠ 1) →
       placed = placeOrigin o level cause brought (closeIncident old.id .forced s)) ∧
     (s.it.incidents.length = 16 → (∀ i ∈ s.it.incidents, i.level ≠ 1) → ∀ i, MergedInto s o i →
       placed = (mergeOrigin o i brought s, i.id, false) ∧
       (∃ unacked, (i.level = 2 → Starts s i.primary.id unacked) ∧ (i.level ≠ 2 → unacked = i.unacked) ∧
         let r : Origin := { id := o, lastSpark := none, held := false, source := none }
         let joined : State := setSilenced i.id false { s with it := { s.it with
           incidents := s.it.incidents.map fun j => if j.id = i.id then { j with
             merged := j.merged ++ [r], acked := false, resound := none, unacked := unacked
             flags := { j.flags with merged := true, silenced := false } } else j } }
         let at2 : State := if 2 ≤ i.level then level2Actions i.id [r] brought joined else joined
         t = postNotice .alarm (.incidentMerged i.id o) (if 3 ≤ i.level then level3Actions i.id [r] at2 else at2)) ∧
       ∃ j, findIncident t i.id = some j ∧ j.level = i.level ∧ j.primary.id = i.primary.id ∧
         (j.merged.map fun r => r.id) = (i.merged.map fun r => r.id) ++ [o] ∧ j.flags.merged = true ∧
         j.flags.silenced = false ∧ j.resound = none)) ∧
  (∀ tag (c : Byte) s, Taken .manualAlarm s →
     (Table.get s.model.compartments c.toNat = none → Refuses .manualAlarm tag [c] s .noSuch .none []) ∧
     (Table.get s.model.compartments c.toNat ≠ none →
       (∀ i, incidentOf s (.compartment c.toNat) = some i →
         CompletesBy .manualAlarm tag [c] s (.accepted (.incidentId i.id)) [.it, .vg, .gs, .cc, .sc, .pi, .cm]
           (rise i.id 3 [.manual] none)) ∧
       (incidentOf s (.compartment c.toNat) = none →
         let placed (u : State) := placeOrigin (.compartment c.toNat) 3 .manual none u
         CompletesBy .manualAlarm tag [c] s (.accepted (.incidentId (placed s).2.1)) [.it, .vg, .gs, .cc, .sc, .pi, .cm]
           fun u => if (placed u).2.2 then (placed u).1 else rise (placed u).2.1 3 [.manual] none (placed u).1)))

/-- R86 to R89, R92: a rise sets the level, joins the causes, makes the incident UNACKED and unsilenced, stops the quiet
expiry, starts or stops the unacked expiry, and posts its ALARM notice last; while the action list has room it then holds a
DIVERT for each gated origin duct and an ALERT for each origin compartment (level 2 entered), a SHUTDOWN, the RELEASE of each
adjoining wall and an EVACUATE (level 3 entered). The notice names the causes that the set did not hold before (log 25). A
criterion that brings no higher level only adds its causes. The unacked expiry that runs out is a rise to 3. The demands of a
level are issued each once: DIVERTs then ALERTs; SHUTDOWNs, RELEASEs then EVACUATEs; their order over several origins is the
model's (log 45). One is not issued again while an entry of its kind and target stands; else the block it goes to takes it
(GatesTakeDemandsAndJam, SirensSelectAndStartCadence, DemandsAreTakenByState, WallsReleaseAndRehold), its entry keeps the
result, a full list counts it among the further actions, and ISOLATED sets the flag (log 26). R51, R52: the spark that
brought the entry, or else the last of the origin, makes GATE-LATE when a gate not DIVERTED cannot travel by the earliest
arrival. An incident of compartments alone issues no SHUTDOWN (R88; log 50). -/
def Obligations.RiseTakesEachLevel : Prop :=
  (∀ s id new causes brought i, findIncident s id = some i → i.level < new → new ≤ 3 →
    ∃ u j, rise id new causes brought s =
        postNotice .alarm (.incidentRisen id i.level new (causes.filter fun c => c ∉ i.causes)
          ((originsOf i).map fun o => o.id)) u ∧
      (∃ v, Frame [.it] s v ∧ u = enterLevels id i.level new (originsOf i) brought (setSilenced id false v)) ∧
      findIncident u id = some j ∧ j.level = new ∧ j.acked = false ∧ j.flags.silenced = false ∧ j.resound = none ∧
      j.quiet = none ∧ (∀ c, c ∈ j.causes ↔ c ∈ i.causes ∨ c ∈ causes) ∧ originsOf j = originsOf i ∧
      j.sparks = i.sparks ∧
      (new = 3 → j.unacked = none) ∧
      (new = 2 → ∀ d e, i.primary.id = .duct d → Table.get s.model.ducts d = some e →
        j.unacked = if e.escalation = 0 then none else some (s.now + BitVec.ofNat 32 (e.escalation * 1000))) ∧
      (j.actions.length < 24 →
        (∀ a ∈ i.actions, ∃ b ∈ j.actions, b.kind = a.kind ∧ b.target = a.target) ∧
        (i.level < 2 → 2 ≤ new → ∀ d e, d ∈ originDucts i → Table.get s.model.ducts d = some e → e.gatePresent = true →
          ∃ a ∈ j.actions, a.kind = .divert ∧ a.target = d) ∧
        (i.level < 2 → 2 ≤ new → ∀ c ∈ originCompartments s.model i,
          ∃ a ∈ j.actions, a.kind = .alert ∧ a.target = c) ∧
        (new = 3 → ∀ d e, d ∈ originDucts i → Table.get s.model.ducts d = some e →
          ∃ a ∈ j.actions, a.kind = .shutdown ∧ a.target = e.group) ∧
        (new = 3 → ∀ c ∈ originCompartments s.model i,
          (∃ a ∈ j.actions, a.kind = .evacuate ∧ a.target = c) ∧
          ∀ w ∈ s.model.walls, (w.2.compA = c ∨ w.2.compB = some c) →
            ∃ a ∈ j.actions, a.kind = .release ∧ a.target = w.1))) ∧
  (∀ s id new causes brought i, findIncident s id = some i → new ≤ i.level →
    let t := rise id new causes brought s
    Frame [.it] s t ∧ t.it = { s.it with incidents := s.it.incidents.map fun j =>
      if j.id = id then { j with causes := addCauses causes j.causes } else j }) ∧
  (∀ (m : MillModel) (os : List Origin), (compartmentsOf m os).Nodup ∧ (groupsOf m os).Nodup ∧
    (∀ c, c ∈ compartmentsOf m os ↔ ∃ o ∈ os, o.id = .compartment c ∨
      ∃ d e, o.id = .duct d ∧ Table.get m.ducts d = some e ∧ e.compartment = c) ∧
    ∀ g, g ∈ groupsOf m os ↔ ∃ o ∈ os, ∃ d e, o.id = .duct d ∧ Table.get m.ducts d = some e ∧ e.group = g) ∧
  (∀ (id : Nat) (os : List Origin) (brought : Option (Nat × PartTime)) (s : State),
    let comps := compartmentsOf s.model os
    let walls := (s.model.walls.filter fun w => comps.any fun c => w.2.compA = c || w.2.compB = some c).map fun w => w.1
    (∀ old new, new < 2 ∨ new ≤ old → enterLevels id old new os brought s = s) ∧
    enterLevels id 2 3 os brought s = level3Actions id os s ∧
    level2Actions id os brought s = comps.foldl (fun t c => issue id .alert c (sirenDemand id c false) t)
      (os.foldl (fun t o => match o.id with
        | .duct d => divertOrigin id d (brought.or o.source) t
        | .compartment _ => t) s) ∧
    level3Actions id os s = comps.foldl (fun t c => issue id .evacuate c (sirenDemand id c true) t)
      (walls.foldl (fun t w => issue id .release w (releaseDemand w id) t)
        ((groupsOf s.model os).foldl (fun t g => issue id .shutdown g (shutdownDemand g .normal .incident) t) s))) ∧
  (∀ id d named s,
    ((∀ e, Table.get s.model.ducts d = some e → e.gatePresent = false) → divertOrigin id d named s = s) ∧
    ∀ e, Table.get s.model.ducts d = some e → e.gatePresent = true →
      divertOrigin id d named s = issue id .divert d (divertDemand d id) { s with it := { s.it with
        incidents := s.it.incidents.map fun i => if i.id = id then { i with flags := { i.flags with
          gateLate := i.flags.gateLate || named.any fun n => gateLate d n.1 n.2 s } } else i } }) ∧
  (∀ d addr t0 s v e ge g de, Table.get s.tc d = some v → Table.get s.model.ducts d = some e →
    Table.get s.model.gates d = some ge → Table.get s.vg.gates d = some g → detectorAt s.model addr = some de →
    let dist := de.gateDist.getD 0 * 1000
    let offset : Nat := match v.state with
      | .conveying => dist / (v.vf.getD 0 * (100 + e.tolerance) / 100)
      | .stale => dist / e.vMax
      | .slow => 0
    (gateLate d addr t0 s = true ↔ g.state ≠ .diverted ∧
      0 < ((s.now + BitVec.ofNat 32 ge.travel) - (t0 + BitVec.ofNat 32 offset)).toInt)) ∧
  (∀ id kind n (demand : State → State × ActionResult) s i, findIncident s id = some i →
    ((∃ a ∈ i.actions, a.kind = kind ∧ a.target = n) → issue id kind n demand s = s) ∧
    ((∀ a ∈ i.actions, ¬ (a.kind = kind ∧ a.target = n)) →
      let r := demand s
      let flags (j : Incident) : IncidentFlags := { j.flags with
        isolatedAction := j.flags.isolatedAction || decide (r.2 = .isolated) }
      issue id kind n demand s = { r.1 with it := { r.1.it with
        incidents := r.1.it.incidents.map fun j => if j.id ≠ id then j
          else if 24 ≤ j.actions.length then { j with flags := flags j, further := min (j.further + 1) 255 }
          else { j with flags := flags j, actions := j.actions ++
            [{ kind := kind, target := n, issuedAt := s.now, result := r.2 }] } } })) ∧
  ∀ s id i, findIncident s id = some i → HasRunOut i.unacked s.now →
    Happens (.unackedExpiry id) s [.lp, .it, .vg, .gs, .cc, .sc, .pi, .cm]
      (Same [.lp, .it, .vg, .gs, .cc, .sc, .pi, .cm] (rise id 3 [.unackTimeout] none s))

/-- R93, R81: the quiet expiry of an incident closes it AUTO when its duct's valve is at rest, and is else set again to Q
from now; a ring entry that stands more than 60,000 ms before now leaves its ring; a last spark that stands 600,000 ms or
more before now is held from then on at 600,000 ms before now. -/
def Obligations.IncidentTimersRunOut : Prop :=
  (∀ s id i d v e, findIncident s id = some i → HasRunOut i.quiet s.now → i.primary.id = .duct d →
    Table.get s.vg.valves d = some v → Table.get s.model.ducts d = some e →
    (v.state = .idle ∧ v.queue = [] → Happens (.quietExpiry id) s [.lp, .it, .vg, .cc, .sc, .pi, .cm]
      (Same [.lp, .it, .vg, .cc, .sc, .pi, .cm] (closeIncident id .auto s))) ∧
    (¬ (v.state = .idle ∧ v.queue = []) → Happens (.quietExpiry id) s [.it] fun t =>
      t.it = { s.it with incidents := s.it.incidents.map fun j =>
        if j.id = id then { j with quiet := some (s.now + BitVec.ofNat 32 e.quiet) } else j })) ∧
  (∀ d s, Happens (.sparkRingEntryAged d) s [.it] fun t =>
    t.it = { s.it with sparks := Table.modify s.it.sparks d fun r =>
      { r with ring := r.ring.filter fun t0 => (s.now - t0).toInt ≤ 60000 } }) ∧
  ∀ d s, Happens (.lastSparkHeld d) s [.it] fun t =>
    let hold (o : Origin) : Origin :=
      if o.id = .duct d ∧ (o.lastSpark.any fun x => decide (600000 ≤ (s.now - x).toInt)) = true
      then { o with held := true } else o
    t.it = { s.it with incidents := s.it.incidents.map fun i =>
      { i with primary := hold i.primary, merged := i.merged.map hold } } ∧
    ∀ o, o.id = .duct d → (∃ x, o.lastSpark = some x ∧ 600000 ≤ (s.now - x).toInt) →
      ∀ now, lastSparkOf (hold o) now = some (now - 600000#32)

/-- R26, R27, R42, R49, R76, R80, R82, R83, R96, R97: a new SPARK or EMBER report of a detector that is neither isolated nor
in walk test, in RUN, is acknowledged and accepted. An upstream one goes first through TC: its transit is computed (its
figures are TransitsStayWithinTheirBound), recorded, and, unless MISSED, its window handed to the valve (what the valve does
with it is WindowQueueKeepsItsLaw). Then its detection time joins the duct's ring, the total count goes on, the duct's
incident records it: the one found, or one opened, where need be in the place of a level-1 incident, or the one it is merged
into; the incident's level becomes the highest of its own and of the criteria that hold, and its causes are those it had (of
a new one, the opening cause) and those of the criteria that hold; a total that passes 65535 posts COUNTER-WRAP, and just
then. What follows for every block is the opening or merge (NewOriginsArePlaced) on the state with the window handed over,
the spark recorded there, and one rise (RiseTakesEachLevel) to the highest criterion's level with their causes (R86); the
SPARK notice with TC's findings is posted last. -/
def Obligations.AcceptedSparksAreRecordedAndJudged : Prop :=
  ∀ (s : State) (addr : LoopAddr) (toggle : Bool) (kind : BitVec 2) (age : BitVec 8) (r : Device) (role : Role)
    (k : ReportKind) (e : DuctEntry) (ring : DuctSparks) (v : Velocity) (ve : ValveEntry) (valve : Valve)
    (de : DetectorEntry) (base count : Nat) (causes : List Cause) (confirmed : Bool),
    Bounds s → OriginsDistinct s → s.lc.state = .up → NoReadWaits s → s.lp.mode = .run →
    Table.get s.lc.roster addr.toNat = some r → r.kind = .detector role → r.toggle ≠ some toggle →
    r.state ≠ .isolated → (∀ w, Table.get s.lc.walks r.duct = some w → w.active = false) →
    reportKindOf kind = some k → k ≠ .test → Table.get s.model.ducts r.duct = some e →
    Table.get s.it.sparks r.duct = some ring → Table.get s.tc r.duct = some v →
    Table.get s.model.valves r.duct = some ve → Table.get s.vg.valves r.duct = some valve →
    detectorAt s.model addr.toNat = some de →
    ((∃ i, incidentOf s (.duct r.duct) = some i ∧ base = i.level ∧ count = i.sparks ∧ causes = i.causes ∧
        confirmed = causes.contains .confirm) ∨
      (incidentOf s (.duct r.duct) = none ∧ (s.it.incidents.length < 16 ∨ ∃ i ∈ s.it.incidents, i.level = 1) ∧
        base = (if role = .upstream then 1 else 2) ∧ count = 0 ∧
        causes = [if role = .upstream then .firstSpark else .confirm] ∧ confirmed = false) ∨
      (∃ i, incidentOf s (.duct r.duct) = none ∧ s.it.incidents.length = 16 ∧ (∀ j ∈ s.it.incidents, j.level ≠ 1) ∧
        MergedInto s (.duct r.duct) i ∧ base = i.level ∧ count = i.sparks ∧ causes = i.causes ∧
        confirmed = causes.contains .confirm)) →
    let t0 := s.now - BitVec.ofNat 32 age.toNat
    let x := computeTransit e ve v (decide (valve.state = .flowing)) addr.toNat (de.dist.getD 0) t0 s.now
    Happens (.sparkReport addr toggle kind age) s [.lp, .lc, .tc, .vg, .it, .gs, .cc, .sc, .pi, .cm] fun t =>
      let times := if role = .upstream
        then (if 16 ≤ ring.ring.length then ring.ring.tail else ring.ring) ++ [t0] else ring.ring
      let within (window : Nat) := (times.filter fun x => ¬ 0 < ((s.now - BitVec.ofNat 32 window) - x).toInt).length
      let missed : Prop := role = .upstream ∧ x.outcome = .missed
      let unavailable : Prop := role = .upstream ∧ ∃ v, Table.get t.vg.valves r.duct = some v ∧
        (v.circuit = true ∨ v.failed = true ∨ v.isolated = true)
      let raises3 : Prop := e.n2 ≤ within e.s2 ∨ role = .downstream ∧ confirmed = true
      let raises2 : Prop := e.n1 ≤ within e.s1 ∨ k = .ember ∨ role = .downstream ∨ missed ∨ unavailable
      let caused (c : Cause) : Prop := c = .burst ∧ e.n1 ≤ within e.s1 ∨ c = .ember ∧ k = .ember ∨
        c = .confirm ∧ role = .downstream ∧ confirmed = false ∨ c = .missed ∧ missed ∨
        c = .valveUnavailable ∧ unavailable ∨ c = .burstHigh ∧ e.n2 ≤ within e.s2 ∨
        c = .confirmRepeat ∧ role = .downstream ∧ confirmed = true
      let windowed : State := if role = .upstream then (match x.outcome with
        | .queued o c => takeWindow r.duct { openAt := o, closeAt := c, sparks := 1 } s
        | .missed => s) else s
      let handed : State := { windowed with lc := t.lc, tc := t.tc }
      let placed : State × Nat := match incidentOf s (.duct r.duct) with
        | some i => (handed, i.id)
        | none =>
          let p := placeOrigin (.duct r.duct) (if role = .upstream then 1 else 2)
            (if role = .upstream then .firstSpark else .confirm) (some (addr.toNat, t0)) handed
          (p.1, p.2.1)
      t.lc = { s.lc with
        silence := some (s.now + 1000#32)
        ackOwed := some (addr.toNat, toggle)
        roster := Table.modify s.lc.roster addr.toNat fun r => { r with toggle := some toggle } } ∧
      (role = .downstream → t.tc = s.tc ∧ t.vg.valves = s.vg.valves) ∧
      (role = .upstream → Table.get t.tc r.duct = some { v with transit := some x } ∧
        (∀ d, d ≠ r.duct → Table.get t.tc d = Table.get s.tc d) ∧
        (∀ o c, x.outcome = .queued o c →
          t.vg.valves = (takeWindow r.duct { openAt := o, closeAt := c, sparks := 1 } s).vg.valves) ∧
        (x.outcome = .missed → t.vg.valves = s.vg.valves)) ∧
      (∃ y, Table.get t.it.sparks r.duct = some y ∧ y.ring = times ∧
        (if ring.total < 65535 then y.total = ring.total + 1 ∧ y.wrapped = ring.wrapped
         else y.total = 0 ∧ y.wrapped = true)) ∧
      ∃ i ∈ t.it.incidents, incidentOf t (.duct r.duct) = some i ∧ i.id = placed.2 ∧ i.lastSpark = some s.now ∧
        i.sparks = min (count + 1) 65535 ∧ (role = .upstream → x.marginal = true → i.flags.marginal = true) ∧
        (∃ o ∈ originsOf i, o.id = .duct r.duct ∧ o.lastSpark = some s.now ∧ o.held = false ∧
          o.source = some (addr.toNat, t0)) ∧
        (raises3 → i.level = max base 3) ∧ (¬ raises3 → raises2 → i.level = max base 2) ∧
        (¬ raises3 → ¬ raises2 →
          i.level = base ∧ (base = 1 → i.quiet = some (s.now + BitVec.ofNat 32 e.quiet))) ∧
        (∀ c, c ∈ i.causes ↔ c ∈ causes ∨ caused c) ∧
        ∃ before after new level unextinguished, (unextinguished = true ↔ missed ∨ unavailable) ∧
          (∀ c, c ∈ new ↔ caused c) ∧ (raises3 → level = 3) ∧ (¬ raises3 → raises2 → level = 2) ∧
          (¬ raises3 → ¬ raises2 → level = 0) ∧
          let risen : State := rise placed.2 level new (some (addr.toNat, t0))
            (sparkRecorded placed.2 r.duct addr.toNat role t0 (decide (role = .upstream) && x.marginal) placed.1)
          let judged : State := { risen with it := { risen.it with incidents := risen.it.incidents.map fun j =>
            if j.id = placed.2 ∧ j.level = 1 then { j with quiet := some (s.now + BitVec.ofNat 32 e.quiet) } else j } }
          let note : NoticeBody := .spark r.duct addr.toNat role k t0 s.now i.id i.level
            (if role = .upstream then some { form := x.form, outcome := x.outcome, marginal := x.marginal } else none)
            unextinguished
          Same [.it, .vg, .gs, .cc, .sc, .pi, .cm] judged t ∧ t.lp = (postNotice .state note judged).lp ∧
          (∀ n ∈ before ++ after, ∀ d, n.2 ≠ .counterWrap d) ∧
          t.lp = posted (before ++ (if ring.total < 65535 then [] else [(.state, .counterWrap r.duct)]) ++ after ++
            [(.state, note)]) s

/-! ## The spark loop (Chapters 2 and 10) -/

/-- R26, R27, R28, R168, the reports that are not accepted, while the loop is UP: each is acknowledged and restarts the
silence expiry; a repeat is discarded; one from an address that holds no detector is counted foreign; one in CONFIG or of an
isolated detector is counted withheld; one of a duct in walk test is handed to the walk. A report of kind 3 is spoiled (12
R186). A new one of kind TEST, of a detector or of an address outside the roster, is counted into a running test that it
matches, and else discarded; an address 0 or 63 is counted like any other (log 37). While the loop is DOWN a report of kind 3
is spoiled too, and any other brings the loop UP and is taken there (LoopFallsAndReturns); while it is IDLE none has any
effect (log 19). -/
def Obligations.OtherReportsAreDisposedOf : Prop :=
  (∀ (s : State) (addr : LoopAddr) (toggle : Bool) (kind : BitVec 2) (age : BitVec 8), s.lc.state = .up → NoReadWaits s →
    let a := addr.toNat
    let t0 := s.now - BitVec.ofNat 32 age.toNat
    let taken : LoopController := { s.lc with silence := some (s.now + 1000#32), ackOwed := some (a, toggle) }
    let toggled : Table Device := Table.modify s.lc.roster a fun r => { r with toggle := some toggle }
    (kind.toNat = 3 → Happens (.sparkReport addr toggle kind age) s [.lc] fun t =>
      t.lc = { s.lc with errors := min (s.lc.errors + 1) 65535 }) ∧
    (∀ r role, kind.toNat < 3 → Table.get s.lc.roster a = some r → r.kind = .detector role → r.toggle = some toggle →
      Happens (.sparkReport addr toggle kind age) s [.lc] fun t => t.lc = taken) ∧
    ((kind.toNat < 2 ∧ Table.get s.lc.roster a = none ∨
        kind.toNat < 3 ∧ ∃ r, Table.get s.lc.roster a = some r ∧ r.kind = .flow) →
      Happens (.sparkReport addr toggle kind age) s [.lc] fun t =>
        t.lc = { taken with foreign := min (s.lc.foreign + 1) 65535 }) ∧
    (∀ r role, kind.toNat < 2 → Table.get s.lc.roster a = some r → r.kind = .detector role → r.toggle ≠ some toggle →
      s.lp.mode ≠ .run ∨ r.state = .isolated →
      Happens (.sparkReport addr toggle kind age) s [.lc] fun t =>
        t.lc = { taken with roster := Table.modify toggled a fun r =>
          { r with withheld := min (r.withheld + 1) 65535 } }) ∧
    (∀ r role k w, reportKindOf kind = some k → k ≠ .test → Table.get s.lc.roster a = some r →
      r.kind = .detector role → r.toggle ≠ some toggle → s.lp.mode = .run → r.state ≠ .isolated →
      Table.get s.lc.walks r.duct = some w → w.active = true →
      Happens (.sparkReport addr toggle kind age) s [.lp, .lc] fun t =>
        t.lc = { taken with
          roster := toggled
          walks := Table.modify s.lc.walks r.duct fun w =>
            { w with sparks := min (w.sparks + 1) 65535, seen := insertNat a w.seen } } ∧
        t.lp = posted [(.state, .walkSpark r.duct a role k t0)] s) ∧
    let hit (target mask : LoopAddr) : Prop :=
      target = 63#6 ∨ ∀ b, b < 6 → mask.getLsbD b = false → addr.getLsbD b = target.getLsbD b
    ∀ was : Table Device, kind.toNat = 2 →
      (Table.get s.lc.roster a = none ∧ was = s.lc.roster ∨
        (∃ r role, Table.get s.lc.roster a = some r ∧ r.kind = .detector role ∧ r.toggle ≠ some toggle) ∧ was = toggled) →
      ((∀ target mask due window answered, s.lc.slot = some (.test target mask due (some window) answered) →
          ¬ hit target mask) →
        Happens (.sparkReport addr toggle kind age) s [.lc] fun t => t.lc = { taken with roster := was }) ∧
      ∀ target mask due window answered, s.lc.slot = some (.test target mask due (some window) answered) →
        hit target mask → Happens (.sparkReport addr toggle kind age) s [.lc] fun t =>
          t.lc = { taken with
            roster := was
            slot := some (.test target mask due (some window) (insertNat a answered)) }) ∧
  ∀ (s : State) (addr : LoopAddr) (toggle : Bool) (kind : BitVec 2) (age : BitVec 8),
    (s.lc.state = .idle → Happens (.sparkReport addr toggle kind age) s [] fun _ => True) ∧
    (s.lc.state = .down → kind.toNat = 3 → Happens (.sparkReport addr toggle kind age) s [.lc] fun t =>
      t.lc = { s.lc with errors := min (s.lc.errors + 1) 65535 })

/-- R21: a poll falls due one period after its last POLL; while the loop is UP the next frame is the POLL that has fallen due
(an ACK then owed is dropped), else the ACK owed, else the frame that the command in the slot has due, else the POLL nearest
to falling due, and none for an empty roster; while it is not UP neither event has an effect. A tie goes to the lowest
address, in R21's own words; that of several polls fallen due the one that fell due first is sent first is the model's (log
17, DEDUCED), for R21 does not say which; that an ACK to address 0 or 63 is not sent, and stays owed until a POLL drops it or
another takes its place, is log 37. -/
def Obligations.LoopFramesAreChosenInOrder : Prop :=
  (∀ (addr : LoopAddr) (s : State), s.lc.state = .up → Happens (.pollDue addr) s [.lc] fun t =>
    t.lc = { s.lc with roster := Table.modify s.lc.roster addr.toNat fun r =>
      if ¬ 0 < (r.pollAt - s.now).toInt then { r with pollDue := true } else r }) ∧
  (∀ (addr : LoopAddr) (s : State), s.lc.state ≠ .up → Happens (.pollDue addr) s [] (fun _ => True) ∧
    Happens .loopFrameSlot s [] fun _ => True) ∧
  ∀ s : State, s.lc.state = .up →
    let poll (e : Nat × Device) : LoopController := { s.lc with
      ackOwed := none
      sent := some (.poll e.1)
      answerSlot := some e.1
      roster := Table.modify s.lc.roster e.1 fun r =>
        { r with pollAt := s.now + BitVec.ofNat 32 r.period, pollDue := false } }
    (∀ before e after, s.lc.roster = before ++ e :: after → e.2.pollDue = true →
      (∀ x ∈ before, x.2.pollDue = true → 0 < (x.2.pollAt - e.2.pollAt).toInt) →
      (∀ x ∈ after, x.2.pollDue = true → ¬ 0 < (e.2.pollAt - x.2.pollAt).toInt) →
      Happens .loopFrameSlot s [.lc] fun t => t.lc = poll e) ∧
    ((∀ x ∈ s.lc.roster, x.2.pollDue = false) →
      (∀ a toggle, s.lc.ackOwed = some (a, toggle) → 1 ≤ a → a ≤ 62 → Happens .loopFrameSlot s [.lc] fun t =>
        t.lc = { s.lc with ackOwed := none, sent := some (.ack a toggle), answerSlot := none }) ∧
      ((∀ a toggle, s.lc.ackOwed = some (a, toggle) → a < 1 ∨ 62 < a) →
        (∀ a automatic n expiry, s.lc.slot = some (.read a automatic n true expiry) →
          Happens .loopFrameSlot s [.lc] fun t =>
            t.lc = { s.lc with sent := some (.readStatus a), answerSlot := none,
                               slot := some (.read a automatic n false expiry) }) ∧
        (∀ target mask window answered, s.lc.slot = some (.test target mask true window answered) →
          Happens .loopFrameSlot s [.lc] fun t =>
            t.lc = { s.lc with sent := some (.testFire target mask), answerSlot := none,
                               slot := some (.test target mask false (some (s.now + 2000#32)) answered) }) ∧
        ((s.lc.slot = none ∨ (∃ a automatic n expiry, s.lc.slot = some (.read a automatic n false expiry)) ∨
            ∃ target mask window answered, s.lc.slot = some (.test target mask false window answered)) →
          (s.lc.roster = [] → Happens .loopFrameSlot s [] fun _ => True) ∧
          ∀ before e after, s.lc.roster = before ++ e :: after →
            (∀ x ∈ before, 0 < (x.2.pollAt - e.2.pollAt).toInt) →
            (∀ x ∈ after, ¬ 0 < (e.2.pollAt - x.2.pollAt).toInt) →
            Happens .loopFrameSlot s [.lc] fun t => t.lc = poll e)))

/-- R23, R25, R31, R33, with the loop UP: a detector's poll answer clears its misses, replaces its flags and sets its state
from them; an empty slot adds a miss, and the third makes the device MISSING; a spoiled poll answer counts as an empty slot
and as a loop error, and so does an answer of the other kind of device, a detector's at a flow sensor's address or the
reverse, for its length is not that of its kind (R186); these, the empty slot among them, are stated for the loop UP and
DOWN, which they leave as it is; an ISOLATED detector keeps its state; each change is noticed, with the blindness of the
duct; the silence expiry starts anew; a service request puts the address into the pending set, all else alike; into an empty
slot goes a read for the first of those that wait (R33), and a command that holds the slot stays. That the automatic read is
timed from its entry to the slot is the model's (log 16), and so is that an answer is taken whatever answer slot is open
(log 19), that an answer of the other kind is such a frame in that address's slot (log 20, DEDUCED), and the order of two
notices of one event (log 22). -/
def Obligations.PollAnswersSetDeviceStates : Prop :=
  ∀ (s : State) (addr : LoopAddr) (r : Device), s.lc.state ≠ .idle → Table.get s.lc.roster addr.toNat = some r →
    let a := addr.toNat
    let closed : Option Nat := s.lc.answerSlot.filter fun b => b ≠ a
    (∀ role soiled fault, s.lc.state = .up → r.kind = .detector role →
      let new : DeviceState := if r.state = .isolated then .isolated
        else if soiled = true ∨ fault = true then .degraded else .normal
      let answered (service : Bool) (t : State) : Prop :=
        t.lc = { s.lc with
          silence := some (s.now + 1000#32)
          answerSlot := closed
          slot := issued s.now s.lc.slot t.lc.autoReads
          autoReads := t.lc.autoReads
          roster := t.lc.roster } ∧
        Table.get t.lc.roster a = some { r with
          misses := 0, state := new, flags := some { soiled := soiled, fault := fault, service := service } } ∧
        (∀ b, b ≠ a → Table.get t.lc.roster b = Table.get s.lc.roster b) ∧
        t.lp = posted (stateNotices a r new (ductBlind s r.duct) (ductBlind t r.duct)) s
      (Happens (.detectorPollAnswer addr soiled fault false) s [.lp, .lc] fun t =>
        answered false t ∧ t.lc.autoReads = s.lc.autoReads) ∧
      (Happens (.detectorPollAnswer addr soiled fault true) s [.lp, .lc] fun t =>
        answered true t ∧ (∀ b, b ∈ t.lc.autoReads ↔ b = a ∨ b ∈ s.lc.autoReads) ∧ (AutoReadsRise s → AutoReadsRise t))) ∧
    (let missed : Nat := min (r.misses + 1) 3
     let new : DeviceState := if r.state ≠ .isolated ∧ missed = 3 then .missing else r.state
     let miss (errors : Nat) (t : State) : Prop :=
       t.lc = { s.lc with answerSlot := closed, errors := errors, roster := t.lc.roster } ∧
       Table.get t.lc.roster a = some { r with misses := missed, state := new } ∧
       (∀ b, b ≠ a → Table.get t.lc.roster b = Table.get s.lc.roster b) ∧
       t.lp = posted (stateNotices a r new (ductBlind s r.duct) (ductBlind t r.duct)) s
     Happens (.pollNoAnswer addr) s [.lp, .lc] (miss s.lc.errors) ∧
     Happens (.loopFrameSpoiled (some addr)) s [.lp, .lc] (miss (min (s.lc.errors + 1) 65535)) ∧
     (r.kind = .flow → ∀ soiled fault service, Happens (.detectorPollAnswer addr soiled fault service) s [.lp, .lc]
       (miss (min (s.lc.errors + 1) 65535))) ∧
     (r.kind ≠ .flow → ∀ raw, Happens (.flowSensorAnswer addr raw) s [.lp, .lc] (miss (min (s.lc.errors + 1) 65535))) ∧
     Happens (.loopFrameSpoiled none) s [.lc] fun t =>
       t.lc = { s.lc with errors := min (s.lc.errors + 1) 65535 })

/-- R29, R30: the silence expiry, and overcurrent, take an UP loop DOWN: every device not isolated becomes MISSING, every
miss count 3, polling stops, the ACK owed is dropped, one LOOP-STATE notice stands for all; overcurrent takes the power off.
The retry expiry powers the line and polls the next address of the roster. A good device frame, a SPARK report, a STATUS
answer, a detector's or a flow sensor's poll answer, in any mode, brings the loop UP, the retry ended, the silence expiry
set, every poll due at once, one LOOP-STATE notice, and is then taken as by the loop UP (PollAnswersSetDeviceStates,
OtherReportsAreDisposedOf, AcceptedSparksAreRecordedAndJudged, ReadingsMoveTheVelocity, LoopCommandsRunAndEnd); an automatic
read that waits then enters an empty slot (R33); a flow answer from a MISSING record in CONFIG shows it. That any good frame
does so, whatever answer slot is open, is the model's (log 19), as is the order of a return and the automatic read it lets in
(log 41) and of two notices of one event (log 22). -/
def Obligations.LoopFallsAndReturns : Prop :=
  (∀ s : State, s.lc.state = .up →
    let fallen (powered : Bool) (t : State) : Prop :=
      t.lc = { s.lc with
        state := .down, silence := none, retry := some (s.now + 1000#32), ackOwed := none, sent := none,
        answerSlot := none, powered := powered, slot := t.lc.slot,
        roster := s.lc.roster.map fun e => (e.1, { e.2 with
          misses := 3, pollDue := false, state := if e.2.state = .isolated then .isolated else .missing }) } ∧
      (t.lc.slot = match s.lc.slot with
        | some (.read _ _ _ _ _) => none
        | x => x) ∧
      t.lp = posted ((.fault, .loopState) :: unansweredRead s) s
    (HasRunOut s.lc.silence s.now → Happens .silenceExpiry s [.lp, .lc] (fallen s.lc.powered)) ∧
    Happens .loopOvercurrent s [.lp, .lc] (fallen false)) ∧
  ∀ s : State, s.lc.state = .down →
    (Happens .loopOvercurrent s [.lc] fun t => t.lc = { s.lc with powered := false, answerSlot := none }) ∧
    (∀ before e after, HasRunOut s.lc.retry s.now → s.lc.roster = before ++ e :: after →
      (∀ x ∈ before, x.1 ≤ s.lc.retryPos) → (s.lc.retryPos < e.1 ∨ before = [] ∧ ∀ x ∈ e :: after, x.1 ≤ s.lc.retryPos) →
      Happens .retryExpiry s [.lc] fun t =>
        t.lc = { s.lc with powered := true, retry := some (s.now + 1000#32), retryPos := e.1, sent := some (.poll e.1),
                           answerSlot := some e.1 }) ∧
    (let up : State := { s with
       lp := posted [(.state, .loopState)] s
       lc := { s.lc with
         state := .up, retry := none, silence := some (s.now + 1000#32)
         roster := s.lc.roster.map fun e => (e.1, { e.2 with pollAt := s.now, pollDue := true }) } }
     let reading : State := { up with lc := { up.lc with slot := issued s.now s.lc.slot s.lc.autoReads } };
     (∀ (addr : LoopAddr) toggle (kind : BitVec 2) age, kind.toNat < 3 →
       exec (.sparkReport addr toggle kind age) s = exec (.sparkReport addr toggle kind age) reading) ∧
     (∀ (addr : LoopAddr) fault (soiling : BitVec 7), soiling.toNat ≤ 100 →
       exec (.statusAnswer addr fault soiling) s = exec (.statusAnswer addr fault soiling) up) ∧
     ∀ (addr : LoopAddr) (r : Device), Table.get s.lc.roster addr.toNat = some r →
       (r.kind ≠ .flow → ∀ soiled fault service, exec (.detectorPollAnswer addr soiled fault service) s =
         exec (.detectorPollAnswer addr soiled fault service) up) ∧
       (r.kind = .flow → ∀ raw, exec (.flowSensorAnswer addr raw) s = exec (.flowSensorAnswer addr raw) reading)) ∧
    ∀ (addr : LoopAddr) (raw : BitVec 16) (r : Device), s.lp.mode = .config →
      Table.get s.lc.roster addr.toNat = some r → r.kind = .flow → r.state = .missing →
      Happens (.flowSensorAnswer addr raw) s [.lp, .lc] fun t =>
        t.lc = { s.lc with
          state := .up, retry := none, silence := some (s.now + 1000#32),
          slot := issued s.now s.lc.slot s.lc.autoReads,
          answerSlot := s.lc.answerSlot.filter fun b => b ≠ addr.toNat, roster := t.lc.roster } ∧
        (∀ b x, b ≠ addr.toNat → Table.get s.lc.roster b = some x →
          Table.get t.lc.roster b = some { x with pollAt := s.now, pollDue := true }) ∧
        Table.get t.lc.roster addr.toNat =
          some { r with pollAt := s.now, pollDue := true, misses := 0, state := .normal } ∧
        t.lp = posted [(.state, .loopState), (.state, .deviceState addr.toNat .missing .normal)] s

/-- R32 to R35: READ-DETECTOR and DETECTOR-TEST are judged in the order of the table and enter the slot; a read's attempt
that runs out is followed by the next, the third ends it with NO-ANSWER; a STATUS answer from its address ends it with
ANSWERED and replaces the last status, any other is discarded, and one of soiling above 100 is spoiled (12 R186); a test's
window that runs out ends it with TEST-RESULT and both lists. R33: at each of these ends the first address left in the
pending set enters the slot while the loop is UP; the address of an automatic or of an answered read leaves the set. Every
step keeps the set in rising order, so its first address is its lowest, and lets none wait by an empty slot while the loop is
UP, a premise of other statements. That an attempt is timed from its entry to the slot is the model's (log 16), and so is
that a frame still unsent when its attempt runs out lapses (log 52). -/
def Obligations.LoopCommandsRunAndEnd : Prop :=
  (∀ tag (a target mask : Byte) s,
    (Taken .readDetector s →
      (s.lc.slot ≠ none → Refuses .readDetector tag [a] s .loopBusy .none []) ∧
      (s.lc.slot = none → s.lc.state = .down → Refuses .readDetector tag [a] s .badState .none []) ∧
      (s.lc.slot = none → s.lc.state ≠ .down →
        (∀ r, Table.get s.lc.roster a.toNat = some r → r.kind = .flow) →
        Refuses .readDetector tag [a] s .noSuch .none []) ∧
      ∀ r, s.lc.slot = none → s.lc.state ≠ .down → Table.get s.lc.roster a.toNat = some r → r.kind ≠ .flow →
        Completes .readDetector tag [a] s (.accepted .nothing) [] [.lc] fun t =>
          t.lc = { s.lc with slot := some (.read a.toNat false 1 true (s.now + 20#32)) }) ∧
    (Taken .detectorTest s →
      (s.lc.slot ≠ none → Refuses .detectorTest tag [target, mask] s .loopBusy .none []) ∧
      (s.lc.slot = none → s.lc.state = .down → Refuses .detectorTest tag [target, mask] s .badState .none []) ∧
      (s.lc.slot = none → s.lc.state ≠ .down →
        if target.toNat < 1 ∨ 63 < target.toNat then Refuses .detectorTest tag [target, mask] s .badValue .field [0]
        else if 63 < mask.toNat then Refuses .detectorTest tag [target, mask] s .badValue .field [1]
        else Completes .detectorTest tag [target, mask] s (.accepted .nothing) [] [.lc] fun t =>
          t.lc = { s.lc with
            slot := some (.test (BitVec.ofNat 6 target.toNat) (BitVec.ofNat 6 mask.toNat) true none []) }))) ∧
  (∀ s a automatic n due expiry, s.lc.slot = some (.read a automatic n due expiry) → HasRunOut (some expiry) s.now →
    (n < 3 → Happens .readStatusAttemptExpiry s [.lc] fun t =>
      t.lc = { s.lc with slot := some (.read a automatic (n + 1) true (s.now + 20#32)) }) ∧
    (3 ≤ n → let left := if automatic = true then s.lc.autoReads.filter fun x => x ≠ a else s.lc.autoReads
      Happens .readStatusAttemptExpiry s [.lp, .lc] fun t =>
        t.lc = { s.lc with slot := if s.lc.state = .up then issued s.now none left else none, autoReads := left } ∧
        t.lp = posted [(.state, .status a automatic none)] s)) ∧
  (∀ s (addr : LoopAddr) fault (soiling : BitVec 7) automatic n due expiry, s.lc.state = .up → soiling.toNat ≤ 100 →
    s.lc.slot = some (.read addr.toNat automatic n due expiry) →
    let answer : DeviceStatus := { fault := fault, soiling := soiling.toNat }
    let left := s.lc.autoReads.filter fun x => x ≠ addr.toNat
    Happens (.statusAnswer addr fault soiling) s [.lp, .lc] fun t =>
      t.lc = { s.lc with
        silence := some (s.now + 1000#32), slot := issued s.now none left, autoReads := left,
        roster := Table.modify s.lc.roster addr.toNat fun r => { r with status := some answer } } ∧
      t.lp = posted [(.state, .status addr.toNat automatic (some answer))] s) ∧
  (∀ s (addr : LoopAddr) fault (soiling : BitVec 7), s.lc.state = .up →
    (100 < soiling.toNat → Happens (.statusAnswer addr fault soiling) s [.lc] fun t =>
      t.lc = { s.lc with errors := min (s.lc.errors + 1) 65535 }) ∧
    (soiling.toNat ≤ 100 →
      (∀ automatic n due expiry, s.lc.slot ≠ some (.read addr.toNat automatic n due expiry)) →
      Happens (.statusAnswer addr fault soiling) s [.lc] fun t =>
        t.lc = { s.lc with silence := some (s.now + 1000#32), slot := issued s.now s.lc.slot s.lc.autoReads })) ∧
  (∀ s t, AutoReadsRise s → step s = .next t → AutoReadsRise t) ∧
  (∀ s t, (s.lc.state = .up → NoReadWaits s) → step s = .next t → t.lc.state = .up → NoReadWaits t) ∧
  ∀ s target mask due window answered, s.lc.slot = some (.test target mask due (some window) answered) →
    HasRunOut (some window) s.now → Table.wf s.lc.roster = true →
    ∃ rest, (Happens .detectorTestWindowExpiry s [.lp, .lc] fun t =>
        t.lc = { s.lc with slot := if s.lc.state = .up then issued s.now none s.lc.autoReads else none } ∧
        t.lp = posted [(.state, .loopTestResult answered rest)] s) ∧
      rest.Pairwise (· < ·) ∧
      ∀ a, a ∈ rest ↔ a ∉ answered ∧ (target = 63#6 ∨
          ∀ b, b < 6 → mask.getLsbD b = false → (BitVec.ofNat 6 a).getLsbD b = target.getLsbD b) ∧
        ∃ r, (a, r) ∈ s.lc.roster ∧ r.kind ≠ .flow

/-! ## Velocity, transit, valves and gates (Chapters 3 and 4) -/

/-- R38 to R41, with the loop UP: a flow sensor's answer, whatever the state of its record, makes the record NORMAL, with a
DEVICE-STATE notice where it was UNKNOWN or MISSING (R23), restarts the silence expiry (R29), and leaves the other records;
outside RUN that is all; its reading is clamped to 6000, filtered with truncation toward zero, or taken as it is where there
was no velocity, restarts the stale expiry and decides the conveying state again, a change of which posts DUCT-FLOW; the
filtered velocity lies between the old one and the reading. The stale expiry that runs out leaves the duct STALE with its
figures. That the answer is taken whatever answer slot is open is the model's (log 19), and so is the order of two notices of
one event (log 22). -/
def Obligations.ReadingsMoveTheVelocity : Prop :=
  (∀ (s : State) (addr : LoopAddr) (raw : BitVec 16) (r : Device) (e : DuctEntry) (v : Velocity), s.lc.state = .up →
    s.lp.mode = .run → Table.get s.lc.roster addr.toNat = some r → r.kind = .flow →
    Table.get s.tc r.duct = some v → Table.get s.model.ducts r.duct = some e →
    let reading := min raw.toNat 6000
    let state : DeviceState := if r.state = .isolated then .isolated else .normal
    let shown : List (NoticeClass × NoticeBody) :=
      if r.state = state then [] else [(.state, .deviceState addr.toNat r.state .normal)]
    ∃ vf new, Happens (.flowSensorAnswer addr raw) s [.lp, .lc, .tc] (fun t =>
        Table.get t.tc r.duct = some { v with
          vf := some vf, raw := some reading, readAt := some s.now, state := new,
          stale := some (s.now + BitVec.ofNat 32 e.staleTime) } ∧
        (∀ d, d ≠ r.duct → Table.get t.tc d = Table.get s.tc d) ∧
        FlowAnswered addr.toNat r state s t ∧
        t.lp = posted (shown ++
          if new = v.state then [] else [(.state, .ductFlow r.duct v.state new (some vf) (some s.now))]) s) ∧
      (new = if e.vMin ≤ vf then .conveying else .slow) ∧
      (v.vf = none → vf = reading) ∧
      ∀ old, v.vf = some old → (vf : Int) = old + ((reading : Int) - old).tdiv (2 ^ e.shift) ∧
        min old reading ≤ vf ∧ vf ≤ max old reading) ∧
  (∀ (s : State) (addr : LoopAddr) (raw : BitVec 16) (r : Device), s.lc.state = .up → s.lp.mode ≠ .run →
    Table.get s.lc.roster addr.toNat = some r → r.kind = .flow →
    let state : DeviceState := if r.state = .isolated then .isolated else .normal
    Happens (.flowSensorAnswer addr raw) s [.lp, .lc] fun t => FlowAnswered addr.toNat r state s t ∧
      t.lp = posted (if r.state = state then [] else [(.state, .deviceState addr.toNat r.state .normal)]) s) ∧
  ∀ d s v, Table.get s.tc d = some v → Table.get s.model.ducts d ≠ none → HasRunOut v.stale s.now →
    Happens (.staleExpiry d) s [.lp, .tc] fun t =>
      Table.get t.tc d = some { v with stale := none, state := .stale } ∧
      (∀ x, x ≠ d → Table.get t.tc x = Table.get s.tc x) ∧
      t.lp = posted (if v.state = .stale then [] else [(.state, .ductFlow d v.state .stale v.vf v.readAt)]) s

/-- R43 to R49, and R13: the bounds, the offsets, the times, MISSED, the window and MARGINAL of a transit; and with a model
that passes TRANSIT the latest arrival never exceeds W_max, in any conveying state, nor does the earliest exceed it. -/
def Obligations.TransitsStayWithinTheirBound : Prop :=
  ∀ (e : DuctEntry) (ve : ValveEntry) (v : Velocity) (flowing : Bool) (addr dist : Nat) (t0 now : PartTime) (vf : Nat),
    vf = v.vf.getD 0 →
    let x := computeTransit e ve v flowing addr dist t0 now
    x.detector = addr ∧ x.t0 = t0 ∧ x.computedAt = now ∧ x.form = v.state ∧ x.vfUsed = v.vf ∧
    (v.state = .conveying → x.vHi = some (vf * (100 + e.tolerance) / 100) ∧
      x.vLo = some (max (vf * (100 - e.tolerance) / 100) e.vMin)) ∧
    (v.state = .stale → x.vHi = some e.vMax ∧ x.vLo = some e.vMin) ∧
    (v.state = .slow → x.vHi = none ∧ x.vLo = none ∧ x.tE = 0 ∧ x.tL = e.wMax) ∧
    (∀ hi lo, x.vHi = some hi → x.vLo = some lo → 0 < lo → x.tE = dist * 1000 / hi ∧ dist * 1000 ≤ x.tL * lo ∧
      x.tL * lo < dist * 1000 + lo) ∧
    x.aE = t0 + BitVec.ofNat 32 x.tE ∧ x.aL = t0 + BitVec.ofNat 32 x.tL ∧
    (x.outcome = .missed ↔ 0 < (now - x.aL).toInt) ∧
    (∀ o c, x.outcome = .queued o c → c = x.aL + BitVec.ofNat 32 ve.afterRun ∧
      o = if 0 < (now - (x.aE - BitVec.ofNat 32 ve.lead)).toInt then now else x.aE - BitVec.ofNat 32 ve.lead) ∧
    (x.marginal = true ↔ x.outcome ≠ .missed ∧ flowing = false ∧
      0 < (now + BitVec.ofNat 32 ve.lead - x.aE).toInt) ∧
    (300 ≤ e.vMin → e.vMin < e.vMax → e.tolerance ≤ 50 → (v.state = .conveying → e.vMin ≤ vf) →
      ceilDiv (dist * 1000) e.vMin ≤ e.wMax → x.tL ≤ e.wMax ∧ x.tE ≤ x.tL)

/-- R56 to R59: every step keeps the law of each valve's queue, of at most 8 windows, apart by more than M; taking a window
keeps it, and every window of the queue, and the one taken, is contained in a single window of the queue after it. A window
that qualifies with none stands in a queue with room as itself; else it and exactly the windows that qualify become one, of
their earliest open time, latest close time and saturated spark sum, at their place, and the others stay; a window that
qualifies with none joins a full queue at its neighbour, the window of the latest open time before its own, or else the
first. An isolated valve refuses the window and counts the refusal; any other takes it and arms the head: an open expiry for
an IDLE valve, or the head opened at once when its time has come; the close expiry for an open one. The part times lie within
the range over which they compare exactly (00_scope.md 3.2), read from a base time before them all. -/
def Obligations.WindowQueueKeepsItsLaw : Prop :=
  (∀ base s t, (s.now - base).toNat < 2 ^ 29 → QueuesLaw base s → step s = .next t → QueuesLaw base t) ∧
  (∀ (base : PartTime) (m : Nat) (w : Window) (q : List Window), m ≤ 1000 → QueueLaw base m q → inRange base w →
    QueueLaw base m (mergeWindow m w q) ∧
    (∀ x ∈ w :: q, ∃ y ∈ mergeWindow m w q, insideWindow base x y) ∧
    (∀ before reached after, q = before ++ reached ++ after →
      (∀ x ∈ before, (x.closeAt - base).toNat + m < (w.openAt - base).toNat) →
      (∀ x ∈ reached, (w.openAt - base).toNat ≤ (x.closeAt - base).toNat + m ∧
        (x.openAt - base).toNat ≤ (w.closeAt - base).toNat + m) →
      (∀ x ∈ after, (w.closeAt - base).toNat + m < (x.openAt - base).toNat) →
      (reached = [] → q.length < 8 → mergeWindow m w q = before ++ w :: after) ∧
      (reached ≠ [] → ∃ u, mergeWindow m w q = before ++ u :: after ∧
        (∃ x ∈ w :: reached, u.openAt = x.openAt) ∧ (∃ x ∈ w :: reached, u.closeAt = x.closeAt) ∧
        (∀ x ∈ w :: reached, insideWindow base x u) ∧
        u.sparks = min ((w :: reached).map fun x => x.sparks).sum 65535)) ∧
    (∃ before reached after, q = before ++ reached ++ after ∧
      (∀ x ∈ before, (x.closeAt - base).toNat + m < (w.openAt - base).toNat) ∧
      (∀ x ∈ reached, (w.openAt - base).toNat ≤ (x.closeAt - base).toNat + m ∧
        (x.openAt - base).toNat ≤ (w.closeAt - base).toNat + m) ∧
      (∀ x ∈ after, (w.closeAt - base).toNat + m < (x.openAt - base).toNat)) ∧
    ∀ before n after, q = before ++ n :: after → q.length = 8 →
      (∀ x ∈ q, (x.closeAt - base).toNat + m < (w.openAt - base).toNat ∨
        (w.closeAt - base).toNat + m < (x.openAt - base).toNat) →
      (∀ x ∈ after, (w.openAt - base).toNat < (x.openAt - base).toNat) →
      ((n.openAt - base).toNat < (w.openAt - base).toNat → mergeWindow m w q = before ++ { n with
        closeAt := w.closeAt, sparks := min (n.sparks + w.sparks) 65535 } :: after) ∧
      (before = [] → (w.openAt - base).toNat < (n.openAt - base).toNat → mergeWindow m w q = { n with
        openAt := w.openAt, sparks := min (n.sparks + w.sparks) 65535 } :: after)) ∧
  ∀ d w s v e, Table.get s.vg.valves d = some v → Table.get s.model.valves d = some e →
    let t := takeWindow d w s
    let q := mergeWindow e.minOff w v.queue
    t.vg.gates = s.vg.gates ∧ (∀ x, x ≠ d → Table.get t.vg.valves x = Table.get s.vg.valves x) ∧
    (v.isolated = true → Frame [.vg] s t ∧
      Table.get t.vg.valves d = some { v with refusals := min (v.refusals + 1) 65535 }) ∧
    (v.isolated = false → q ≠ [] ∧ ∀ h rest, q = h :: rest →
      (v.state ≠ .idle → Frame [.vg] s t ∧
        Table.get t.vg.valves d = some { v with queue := q, openExpiry := none, closeExpiry := some h.closeAt }) ∧
      (v.state = .idle → 0 < (h.openAt - s.now).toInt → Frame [.vg] s t ∧
        Table.get t.vg.valves d = some { v with queue := q, openExpiry := some h.openAt, closeExpiry := none }) ∧
      (v.state = .idle → ¬ 0 < (h.openAt - s.now).toInt →
        let made := inputMade s e.pressureIn
        Frame [.lp, .vg, .pi, .cm] s t ∧ Wrote [(e.output, true)] s t ∧ t.lp = posted (openedNotices d made v) s ∧
        Table.get t.vg.valves d = some (headOpened s.now made e h { v with queue := q })))

/-- R59 to R64: the open expiry opens the head: output on, both flags clear, OPENING with the settle expiry, or FLOWING at
once when the pressure input is made; the settle expiry marks the window, and a valve not failed becomes failed, with
VALVE-FAIL handed to IT, by which its incident takes the rise of one level, or at level 3 the cause (R84), and then noticed;
the close expiry ends the head with its outcome and arms the next, which opens in the same event when its time has come. A
change of the pressure input: water arriving at an OPENING valve makes it FLOWING and restores a failed one; a FLOWING valve
that loses it is judged again; made in IDLE it is noticed. The order of two notices of one event is the model's (log 22),
and so is that the two flags of a head keep their values once it has closed (log 56). -/
def Obligations.ValvesOpenSettleAndClose : Prop :=
  (∀ d s v e h rest, Table.get s.vg.valves d = some v → Table.get s.model.valves d = some e → v.queue = h :: rest →
    v.state = .idle → HasRunOut v.openExpiry s.now →
    let made := inputMade s e.pressureIn
    Happens (.openExpiry d) s [.lp, .vg, .pi, .cm] fun t =>
      Table.get t.vg.valves d = some (headOpened s.now made e h v) ∧
      (∀ x, x ≠ d → Table.get t.vg.valves x = Table.get s.vg.valves x) ∧ t.vg.gates = s.vg.gates ∧
      Wrote [(e.output, true)] s t ∧ t.lp = posted (openedNotices d made v) s) ∧
  (∀ d s v h rest, Table.get s.vg.valves d = some v → v.queue = h :: rest → HasRunOut v.settleExpiry s.now →
    (v.failed = true → Happens (.settleExpiry d) s [.vg] fun t =>
      t.vg = { s.vg with valves := Table.modify s.vg.valves d fun v =>
        { v with settleExpiry := none, settleRan := true, flowed := false, failed := true } }) ∧
    (v.failed = false → Happens (.settleExpiry d) s [.lp, .vg, .it, .gs, .cc, .sc, .pi, .cm] fun t =>
      t.vg.valves = (Table.modify s.vg.valves d fun v =>
        { v with settleExpiry := none, settleRan := true, flowed := false, failed := true }) ∧
      (let failed : State := { s with vg := { s.vg with valves := Table.modify s.vg.valves d fun v =>
         { v with settleExpiry := none, settleRan := true, flowed := false, failed := true } } }
       let taken : State := match incidentOf s (.duct d) with
         | none => failed
         | some i => rise i.id (min (i.level + 1) 3) [.valveFail] none failed
       Same [.lp, .vg, .it, .gs, .cc, .sc, .pi, .cm] (postNotice .fault (.valveFail d h) taken) t) ∧
      (incidentOf s (.duct d) = none → t.it = s.it ∧ t.vg.gates = s.vg.gates ∧ t.gs = s.gs ∧ t.cc = s.cc) ∧
      ∀ i, incidentOf s (.duct d) = some i → findIncident s i.id = some i → i.level ≤ 3 →
        ∃ j, findIncident t i.id = some j ∧ j.level = min (i.level + 1) 3 ∧ .valveFail ∈ j.causes)) ∧
  (∀ d s v e h rest, Table.get s.vg.valves d = some v → Table.get s.model.valves d = some e → v.queue = h :: rest →
    HasRunOut v.closeExpiry s.now →
    let outcome : WindowOutcome := match v.settleRan, v.flowed with
      | false, true => .flowed
      | true, true => .lateFlow
      | true, false => .failed
      | false, false => .unproven
    let note : List (NoticeClass × NoticeBody) := if outcome = .unproven then [(.state, .valveUnproven d h)] else []
    let closed : Valve := { v with
      state := .idle, queue := rest, closeExpiry := none, settleExpiry := none, last := some (h, outcome) }
    let ends (new : Valve) (ws : List (Nat × Bool)) (notices : List (NoticeClass × NoticeBody)) : Prop :=
      Happens (.closeExpiry d) s [.lp, .vg, .pi, .cm] fun t =>
        Table.get t.vg.valves d = some new ∧ t.vg.gates = s.vg.gates ∧
        (∀ x, x ≠ d → Table.get t.vg.valves x = Table.get s.vg.valves x) ∧ Wrote ws s t ∧ t.lp = posted notices s
    (rest = [] → ends { closed with openExpiry := none } [(e.output, false)] note) ∧
    ∀ h' rest', rest = h' :: rest' →
      (0 < (h'.openAt - s.now).toInt → ends { closed with openExpiry := some h'.openAt } [(e.output, false)] note) ∧
      (¬ 0 < (h'.openAt - s.now).toInt →
        let made := inputMade s e.pressureIn
        ends (headOpened s.now made e h' closed) [(e.output, false), (e.output, true)]
          (note ++ openedNotices d made v))) ∧
  ∀ d made s v e, Table.get s.vg.valves d = some v → Table.get s.model.valves d = some e →
    let t := pressureChange d made s
    let takes (f : Valve → Valve) : Prop := t.vg = { s.vg with valves := Table.modify s.vg.valves d f }
    (v.state = .idle → made = true → t = postNotice .fault (.pressureUnexpected d) s) ∧
    (v.state = .opening → made = true → Frame [.lp, .vg] s t ∧ t.lp = posted (openedNotices d true v) s ∧
      takes fun v => { v with settleExpiry := none, state := .flowing, flowed := true, failed := false }) ∧
    (v.state = .flowing → made = false → Frame [.vg] s t ∧
      takes fun v => { v with state := .opening, settleExpiry := some (s.now + BitVec.ofNat 32 e.settle) }) ∧
    (v.state = .idle ∧ made = false ∨ v.state = .opening ∧ made = false ∨ v.state = .flowing ∧ made = true → t = s)

/-- R65, CLEAR-VALVE-FAIL: refused NO-SUCH for a duct with no valve record, BAD-STATE when the failed flag is clear; else the
flag is cleared with VALVE-RESTORED, and an OPENING valve's settle expiry starts again. -/
def Obligations.ClearValveFailJudgesAfresh : Prop :=
  ∀ tag (d : Byte) s, Taken .clearValveFail s →
    (Table.get s.vg.valves d.toNat = none → Refuses .clearValveFail tag [d] s .noSuch .none []) ∧
    ∀ v e, Table.get s.vg.valves d.toNat = some v → Table.get s.model.valves d.toNat = some e →
      (v.failed = false → Refuses .clearValveFail tag [d] s .badState .none []) ∧
      (v.failed = true →
        Completes .clearValveFail tag [d] s (.accepted .nothing) [(.state, .valveRestored d.toNat)] [.vg] fun t =>
          t.vg.gates = s.vg.gates ∧
          Table.get t.vg.valves d.toNat = some { v with
            failed := false
            settleExpiry := if v.state = .opening then some (s.now + BitVec.ofNat 32 e.settle) else v.settleExpiry } ∧
          ∀ x, x ≠ d.toNat → Table.get t.vg.valves x = Table.get s.vg.valves x)

/-- R71, R72: a divert demand and a return demand by the gate's state, with their GATE-STATE notices; no other gate, valve or
block is changed. R73: the travel expiry that runs out jams the gate, with its GATE-STATE notice: for one moving to DIVERTED
the pending divert is then reported FAILED (R89) and the incident of its duct, at whatever level, takes a rise to 3 with
GATE-FAIL (R84); for one returning nothing is handed on. R73, R74: the changes of the position input: a move completes, a
gate that leaves its position jams, a jammed gate that reaches it recovers; a divert that completes is reported DONE. That
the GATE-STATE notice of a jam stands before the INCIDENT notice of the rise it brings is the model's (order of two notices:
log 22). -/
def Obligations.GatesTakeDemandsAndJam : Prop :=
  (∀ d id s g e, Table.get s.vg.gates d = some g → Table.get s.model.gates d = some e →
    let r := divertDemand d id s
    (g.isolated = true → r = (s, .isolated)) ∧
    (g.isolated = false → g.state = .diverted → r.2 = .done ∧ GateTakes d { g with pending := none } [] [] s r.1) ∧
    (g.isolated = false → g.state = .toDivert → r.2 = .pending ∧
      GateTakes d { g with pending := some id } [] [] s r.1) ∧
    (g.isolated = false → g.state = .toNormal ∨ g.state = .jammed → inputMade s e.positionIn = true →
      r.2 = .done ∧ GateTakes d { g with commanded := true, state := .diverted, travel := none, pending := none }
        [(e.output, true)] [(.state, .gateState d g.state .diverted)] s r.1) ∧
    (g.isolated = false → g.state = .normal ∨
        (g.state = .toNormal ∨ g.state = .jammed) ∧ inputMade s e.positionIn = false →
      r.2 = .pending ∧ GateTakes d { g with
          commanded := true, state := .toDivert, travel := some (s.now + BitVec.ofNat 32 e.travel), pending := some id }
        [(e.output, true)] [(.state, .gateState d g.state .toDivert)] s r.1)) ∧
  (∀ d s g e, Table.get s.vg.gates d = some g → Table.get s.model.gates d = some e →
    let t := returnDemand d s
    (g.isolated = true ∨ g.state = .normal ∨ g.state = .toNormal → t = s) ∧
    (g.isolated = false → g.state = .toDivert ∨ g.state = .jammed → inputMade s e.positionIn = false →
      GateTakes d { g with commanded := false, state := .normal, travel := none, pending := none }
        [(e.output, false)] [(.state, .gateState d g.state .normal)] s t) ∧
    (g.isolated = false → g.state = .diverted ∨
        (g.state = .toDivert ∨ g.state = .jammed) ∧ inputMade s e.positionIn = true →
      GateTakes d { g with
          commanded := false, state := .toNormal, travel := some (s.now + BitVec.ofNat 32 e.travel), pending := none }
        [(e.output, false)] [(.state, .gateState d g.state .toNormal)] s t)) ∧
  (∀ d s g, Table.get s.vg.gates d = some g → HasRunOut g.travel s.now →
    (g.state = .toNormal → Happens (.travelExpiry d) s [.lp, .vg]
      (GateTakes d { g with state := .jammed, travel := none, pending := none } []
        [(.fault, .gateState d .toNormal .jammed)] s)) ∧
    (g.state = .toDivert → Happens (.travelExpiry d) s [.lp, .vg, .it, .gs, .cc, .sc, .pi, .cm] fun t =>
      t.vg.valves = s.vg.valves ∧
      (∃ u, GateTakes d { g with state := .jammed, travel := none, pending := none } []
          [(.fault, .gateState d .toDivert .jammed)] s u ∧
        let reported : State := divertReported d g.pending .failed u
        let after (w : State) : Prop := Same [.lp, .vg, .it, .gs, .cc, .sc, .pi, .cm] w t
        (incidentOf s (.duct d) = none → after reported) ∧
        ∀ i, incidentOf s (.duct d) = some i → after (rise i.id 3 [.gateFail] none reported)) ∧
      (incidentOf s (.duct d) = none →
        Table.get t.vg.gates d = some { g with state := .jammed, travel := none, pending := none } ∧
        t.lp = posted [(.fault, .gateState d .toDivert .jammed)] s) ∧
      ∀ i, incidentOf s (.duct d) = some i → findIncident s i.id = some i → g.pending = some i.id → i.level ≤ 3 →
        ∃ j, findIncident t i.id = some j ∧ j.level = 3 ∧ .gateFail ∈ j.causes ∧
          (i.level = 2 → ∀ a ∈ i.actions, a.kind = .divert → a.target = d → a.result = .pending →
            ∃ b ∈ j.actions, b.kind = .divert ∧ b.target = d ∧ b.issuedAt = a.issuedAt ∧ b.result = .failed))) ∧
  ∀ d made s g, Table.get s.vg.gates d = some g →
    let r := positionChange d made s
    let t := takeGateReport d r
    let reported := divertReported d g.pending
    let reaches : Prop := g.state = .toDivert ∨ g.state = .jammed ∧ g.commanded = true
    (g.isolated = true → t = s) ∧
    (g.isolated = false → made = true →
      (reaches → ∃ u, GateTakes d { g with state := .diverted, travel := none, pending := none } []
        [(.state, .gateState d g.state .diverted)] s u ∧
        t = reported .done u) ∧
      (g.state = .normal → GateTakes d { g with state := .jammed, travel := none, pending := none } []
        [(.fault, .gateState d .normal .jammed)] s t) ∧
      (g.state = .toNormal ∨ g.state = .diverted ∨ g.state = .jammed ∧ g.commanded = false → t = s)) ∧
    (g.isolated = false → made = false →
      (g.state = .toNormal → GateTakes d { g with state := .normal, travel := none } []
        [(.state, .gateState d .toNormal .normal)] s t) ∧
      (g.state = .diverted → ∃ u, GateTakes d { g with state := .jammed, travel := none, pending := none } []
          [(.fault, .gateState d .diverted .jammed)] s u ∧
        (incidentOf s (.duct d) = none → t = reported .failed u) ∧
        ∀ i, incidentOf s (.duct d) = some i → t = rise i.id 3 [.gateFail] none (reported .failed u)) ∧
      (g.state = .jammed → g.commanded = false → GateTakes d { g with state := .normal } []
        [(.state, .gateState d .jammed .normal)] s t) ∧
      (g.state = .toDivert ∨ g.state = .normal ∨ g.state = .jammed ∧ g.commanded = true → t = s))

/-! ## Extraction groups (Chapter 6) -/

/-- R113, RESTART-GROUP, judged in the order of its table, accepted with R114, and R115, STOP-GROUP, refused by an isolated
group with the effects of R110: accepted, they are the restart and the demand that StepListsRunInOrder and
DemandsAreTakenByState characterise. Which duct an INTERLOCK names where several qualify is the model's (log 43), and so are
the reason INCIDENT of that INTERLOCK (log 53), the reason STATE of the refusals that name a state (log 11) and the data of
STOP-GROUP's reply (log 46). -/
def Obligations.GroupRequestsAreInterlocked : Prop :=
  (∀ tag (g : Byte) s, Taken .restartGroup s →
    (Table.get s.gs g.toNat = none → Refuses .restartGroup tag [g] s .noSuch .none []) ∧
    ∀ r e, Table.get s.gs g.toNat = some r → Table.get s.model.groups g.toNat = some e →
      (r.isolated = true → Refuses .restartGroup tag [g] s .badState .isolated []) ∧
      (r.isolated = false → r.state ≠ .stopped → Refuses .restartGroup tag [g] s .busy .state
        [match r.state with | .running => 0 | .stopping => 1 | .stopped => 2 | .starting => 3]) ∧
      (r.isolated = false → r.state = .stopped →
        (∀ before d after i, ductsOfGroup s.model g.toNat = before ++ d :: after → (∀ x ∈ before, ClearOnDuct s x) →
          FirstOnDuct s d i → Refuses .restartGroup tag [g] s .interlock .incident [d, i.id]) ∧
        ((∀ d ∈ ductsOfGroup s.model g.toNat, ClearOnDuct s d) →
          (∀ before w after x, wallsCrossed s.model g.toNat = before ++ w :: after →
            (∀ y ∈ before, ∀ q, Table.get s.cc.walls y = some q → q.state = .normal) →
            Table.get s.cc.walls w = some x → x.state ≠ .normal →
            Refuses .restartGroup tag [g] s .interlock .state [w, if x.state = .warning then 1 else 2]) ∧
          ((∀ w ∈ wallsCrossed s.model g.toNat, ∀ q, Table.get s.cc.walls w = some q → q.state = .normal) →
            CompletesBy .restartGroup tag [g] s
              (.accepted (.groupState g.toNat (groupStateOf (beginRestart g.toNat e (found s)) g.toNat)))
              [.vg, .gs, .pi, .cm] (beginRestart g.toNat e))))) ∧
  ∀ tag (g : Byte) s, Taken .stopGroup s →
    (Table.get s.gs g.toNat = none → Refuses .stopGroup tag [g] s .noSuch .none []) ∧
    ∀ r, Table.get s.gs g.toNat = some r → Table.get s.model.groups g.toNat ≠ none →
      (r.isolated = true →
        Completes .stopGroup tag [g] s (.refused .badState .isolated []) [(.state, .groupRefused g.toNat .host)] [.gs]
          fun t => t.gs = Table.modify s.gs g.toNat fun r => { r with refusals := min (r.refusals + 1) 65535 }) ∧
      (r.isolated = false → r.state = .stopped ∨ r.state = .stopping →
        Completes .stopGroup tag [g] s (.accepted (.groupState g.toNat r.state)) [] [] fun _ => True) ∧
      (r.isolated = false → r.state = .running ∨ r.state = .starting →
        CompletesBy .stopGroup tag [g] s
          (.accepted (.groupState g.toNat (groupStateOf (shutdownDemand g.toNat .normal .host (found s)).1 g.toNat)))
          [.gs, .pi, .cm] fun u => (shutdownDemand g.toNat .normal .host u).1)

/-- R99, R102, R109, R110 kept by every step: a group's record holds together (`GroupHolds`): a runner while it is moving, on
the list of its state, waiting with its expiry; a priority while STOPPING; no run of an isolated group. R100 kept by every
step: in RUN, a group not isolated is RUNNING or STARTING only if none of its ducts is an origin of a level-3 incident and no
wall crossed by one of them is RELEASED; its premises (`Grounded`) are kept by every step themselves (StepKeepsLimits,
IncidentTableKeepsItsLaws, RecordsFollowCommittedModel). -/
def Obligations.GroupsKeepTheirRuns : Prop :=
  GroupsLaw State.reset ∧ (∀ s t, GroupsLaw s → step s = .next t → GroupsLaw t) ∧
  ∀ s t, Grounded s → GroupsInterlocked s → step s = .next t → GroupsInterlocked t

/-- R102 to R107: the steps that complete when they are begun pass in one event, each writing its outputs in order: DRIVE,
INFEED, AWAIT and FAN whose input is at its level, PAUSE of 0 or hurried. When the last has passed, a shutdown ends COMPLETED
in STOPPED, a restart in RUNNING, with a fan trip at once where the fan feedback is not made. A list that comes to an AWAIT
or FAN step whose input is not at its level holds the runner there with its expiry, and so does a PAUSE not hurried; an AWAIT
of timeout 0 is a step fault at once, after which a shutdown goes on and a restart ends FAULTED in a RESTART-FAULT shutdown.
R114: a restart is begun by returning just the group's DIVERTED gates whose ducts are in no incident, then the run from step
1, its fault record cleared (R99); the items of its GROUP-STATE notice are log 35. -/
def Obligations.StepListsRunInOrder : Prop :=
  (∀ g e s r k n, Table.get s.gs g = some r →
    let steps := (listOf e k).drop (n - 1)
    let hurried : Prop := k = .shutdown ∧ r.priority = some .immediate
    let t := runList g e k n s
    let ended (new : GroupState) : Group := { r with
      state := new, runner := none
      lastRun := some { list := k, step := (listOf e k).length, outcome := .completed, endedAt := s.now } }
    let note (new : GroupState) : List (NoticeClass × NoticeBody) :=
      [(.state, .groupState g r.state new none (some (k, (listOf e k).length)))]
    (∀ st ∈ steps, PassesAtOnce s e hurried st) →
    (k = .shutdown → r.state = .stopping → GroupTakes g { ended .stopped with priority := none }
      (writesOf s.model g e steps) (note .stopped) s t) ∧
    (k = .restart → r.state = .starting → ∃ u, GroupTakes g (ended .running) (writesOf s.model g e steps)
      (note .running) s u ∧ t = if inputMade s e.fanIn = true then u
        else (shutdownDemand g .normal .fanTrip (postNotice .fault (.fanTrip g) u)).1)) ∧
  (∀ g e s r x k n before st after, Table.get s.gs g = some r → r.runner = some x → x.list = k → 1 ≤ n →
    (listOf e k).drop (n - 1) = before ++ st :: after →
    (∀ y ∈ before, PassesAtOnce s e (k = .shutdown ∧ r.priority = some .immediate) y) →
    let t := runList g e k n s
    let m := n + before.length
    let proven := provenAfter before x.fanProven
    let at' (proven : Bool) (expiry : Option PartTime) : Group := { r with
      runner := some { list := k, step := m, fanProven := proven, expiry := expiry } }
    let holds (ws : List (Nat × Bool)) (proven : Bool) (time : Nat) : Prop :=
      GroupTakes g (at' proven (some (s.now + BitVec.ofNat 32 (time * 1000)))) (writesOf s.model g e before ++ ws) [] s t
    (∀ p made time, st = .await p made time → inputMade s p ≠ made → time ≠ 0 → holds [] proven time) ∧
    (∀ run, st = .fan run → inputMade s e.fanIn ≠ run → e.fanTimeout ≠ 0 →
      holds [(e.fanOut, run)] (run && proven) e.fanTimeout) ∧
    (∀ time, st = .pause time → time ≠ 0 → ¬ (k = .shutdown ∧ r.priority = some .immediate) →
      holds [] proven time) ∧
    ∀ p made, st = .await p made 0 → inputMade s p ≠ made → ∃ u,
      GroupTakes g { at' proven none with fault := some { list := k, step := m } } (writesOf s.model g e before)
        [(.fault, .stepFault g k m st p)] s u ∧
      (k = .shutdown → t = runList g e .shutdown (m + 1) u) ∧
      (k = .restart → t = beginShutdown g e .normal .restartFault { u with gs := Table.modify u.gs g fun y => { y with
        runner := none, lastRun := some { list := k, step := m, outcome := .faulted, endedAt := s.now } } })) ∧
  ∀ g e s r, Table.get s.gs g = some r → r.state = .stopped →
    let t := beginRestart g e s
    let returned := (ductsOfGroup s.model g).filter fun d => (incidentOf s (.duct d)).isNone &&
      (Table.get s.vg.gates d).any fun x => x.state == .diverted
    let gatesBack : State := returned.foldl (fun u d => returnDemand d u) s
    t = runList g e .restart 1 (postNotice .state (.groupState g .stopped .starting none none) { gatesBack with
      gs := Table.modify s.gs g fun x => { x with
        state := .starting, fault := none
        runner := some { list := .restart, step := 1, fanProven := false, expiry := none } } }) ∧
    ∀ d, Table.get t.vg.gates d =
      if d ∈ returned then Table.get (returnDemand d s).vg.gates d else Table.get s.vg.gates d

/-- R101: outside RUN a shutdown demand changes nothing. R109, R110, in RUN, the shutdown demand by the group's state; and
the step expiries: a waiting PAUSE that runs out is followed by the next step (R105); a waiting AWAIT or FAN step that runs
out is a step fault with its record and notice, after which a shutdown goes on and a restart ends FAULTED in a RESTART-FAULT
shutdown (R106). In RUN a group takes the change of an input: R111, its fan feedback cleared is a fan trip in RUNNING, and in
STARTING once the fan is proven, and made in STOPPED is noticed; R104, the input that its waiting AWAIT or FAN step names,
reaching its level, completes the step. That the trip is judged before the step is the model's (log 30), and so are the items
of GROUP-STATE (log 35), that a FAN step that times out leaves the fan unproven (log 42), and the order of two notices of one
event (log 22). -/
def Obligations.DemandsAreTakenByState : Prop :=
  (∀ g p src s, s.lp.mode ≠ .run → (shutdownDemand g p src s).1 = s) ∧
  (∀ g p src s r e, s.lp.mode = .run → Table.get s.gs g = some r → Table.get s.model.groups g = some e →
    let d := shutdownDemand g p src s
    let begun (last : Option LastRun) (run : Option (ListKind × Nat)) : Prop :=
      d.2 = .done ∧ Frame [.lp, .gs, .pi, .cm] s d.1 ∧
      Same [.lp, .gs, .pi, .cm] (runShutdown g e 1 (postNotice .state (.groupState g r.state .stopping (some src) run)
        { s with gs := Table.modify s.gs g fun x => { x with
            state := .stopping, priority := some p, source := some src, lastRun := last
            runner := some { list := .shutdown, step := 1, expiry := none, fanProven := false }
            fault := if src = .restartFault then x.fault else none } })) d.1
    (r.isolated = true → d.2 = .isolated ∧ Frame [.lp, .gs] s d.1 ∧ d.1.lp = posted [(.state, .groupRefused g src)] s ∧
      d.1.gs = Table.modify s.gs g fun r => { r with refusals := min (r.refusals + 1) 65535 }) ∧
    (r.isolated = false →
      (r.state = .stopped ∨ r.state = .stopping ∧ ¬ (r.priority = some .normal ∧ p = .immediate) → d = (s, .done)) ∧
      (r.state = .running → Table.wf s.gs = true → begun r.lastRun none) ∧
      (∀ x, r.state = .starting → Table.wf s.gs = true → r.runner = some x →
        begun (some { list := .restart, step := x.step, outcome := .abandoned, endedAt := s.now })
          (some (.restart, x.step))) ∧
      ∀ x, r.state = .stopping → r.priority = some .normal → p = .immediate → r.runner = some x →
        let raised : State := { s with gs := Table.modify s.gs g fun x => { x with priority := some .immediate } }
        d.2 = .done ∧
        ((∃ time, e.shutdown[x.step - 1]? = some (.pause time)) → d.1 = runShutdown g e (x.step + 1) raised) ∧
        ((∀ time, e.shutdown[x.step - 1]? ≠ some (.pause time)) → d.1 = raised))) ∧
  (∀ g s r e x time, Table.get s.gs g = some r → Table.get s.model.groups g = some e → r.runner = some x →
    (listOf e x.list)[x.step - 1]? = some (.pause time) → HasRunOut x.expiry s.now →
    Happens (.pauseExpiry g) s [.lp, .gs, .pi, .cm]
      (Same [.lp, .gs, .pi, .cm] (runList g e x.list (x.step + 1) s))) ∧
  (∀ g s r e x st point, Table.get s.gs g = some r → Table.get s.model.groups g = some e → r.runner = some x →
    (listOf e x.list)[x.step - 1]? = some st → HasRunOut x.expiry s.now →
    ((∃ made time, st = .await point made time) ∨ (∃ run, st = .fan run) ∧ point = e.fanIn) →
    let faulted : State := postNotice .fault (.stepFault g x.list x.step st point)
      { s with gs := Table.modify s.gs g fun y => { y with
          fault := some { list := x.list, step := x.step }
          runner := y.runner.map fun z => { z with expiry := none } } }
    Happens (.stepTimeout g) s [.lp, .gs, .pi, .cm] fun t =>
      (x.list = .shutdown → Same [.lp, .gs, .pi, .cm] (runShutdown g e (x.step + 1) faulted) t) ∧
      (x.list = .restart → Same [.lp, .gs, .pi, .cm] (beginShutdown g e .normal .restartFault
        { faulted with gs := Table.modify faulted.gs g fun y => { y with
            runner := none
            lastRun := some { list := .restart, step := x.step, outcome := .faulted, endedAt := s.now } } }) t)) ∧
  ∀ g p made s r e, Table.get s.gs g = some r → Table.get s.model.groups g = some e →
    let trip (u : State) : State := (shutdownDemand g .normal .fanTrip (postNotice .fault (.fanTrip g) u)).1
    let fed := feedbackChange g made s
    (r.state = .running → made = false → fed = trip s) ∧
    (r.state = .starting → made = false → fed = if r.runner.any (fun x => x.fanProven) = true then trip s else s) ∧
    (r.state = .stopped → made = true → fed = postNotice .fault (.fanUnexpected g) s) ∧
    (r.state = .stopping ∨ r.state = .stopped ∧ made = false ∨
      (r.state = .running ∨ r.state = .starting) ∧ made = true → fed = s) ∧
    (let awaited (x : Runner) (st : ListStep) : Prop := r.runner = some x ∧ x.expiry ≠ none ∧
        (listOf e x.list)[x.step - 1]? = some st ∧
        ((∃ time, st = .await p made time) ∨ st = .fan made ∧ p = e.fanIn);
      (∀ x st, awaited x st → awaitChange g p made s = runList g e x.list (x.step + 1) { s with
        gs := Table.modify s.gs g fun y => { y with runner := y.runner.map fun z => { z with
          fanProven := decide (st = .fan true) || z.fanProven } } }) ∧
      ((∀ x st, ¬ awaited x st) → awaitChange g p made s = s)) ∧
    groupInputChange g p made s = if s.lp.mode = .run
      then awaitChange g p made (if e.fanIn = p then fed else s) else s

/-! ## Fire walls (Chapter 7) -/

/-- R122, R123, R124, R129: RELEASE-WALL by the wall's state; REHOLD-WALL by its conditions in order and then by the wall's
state; the warning expiry; and entry to RELEASED: outputs off, doors and dampers closing with their expiries (R119, R120),
WALL-STATE, the path-lost demands in group order, and every PENDING RELEASE entry of the wall DONE (R121). R121, R130, IT's
RELEASE demand: INCIDENT joins the causes, the result PENDING, or DONE for a RELEASED wall or one with no warning; an
isolated wall refuses it, counted, with WALL-REFUSED and the result ISOLATED. R128 kept by every step: in RUN, a wall not
isolated is NORMAL only if neither compartment it adjoins is an origin compartment of a level-3 incident. Which compartment
and incident an INTERLOCK names where several qualify is the model's (log 44), and so are the reason INCIDENT of that
INTERLOCK (log 53) and the data of RELEASE-WALL's reply (log 46). -/
def Obligations.WallsReleaseAndRehold : Prop :=
  (∀ s t, Grounded s → WallsInterlocked s → step s = .next t → WallsInterlocked t) ∧
  (∀ tag (n : Byte) s, let w := n.toNat
    Taken .releaseWall s →
    (Table.get s.cc.walls w = none → Refuses .releaseWall tag [n] s .noSuch .none []) ∧
    ∀ r e, Table.get s.cc.walls w = some r → Table.get s.model.walls w = some e →
      let causes : WallCauses := { r.causes with manual := true }
      (r.isolated = true → Completes .releaseWall tag [n] s (.refused .badState .isolated []) [] [.cc] fun t =>
        t.cc = { s.cc with walls := Table.modify s.cc.walls w fun r =>
          { r with refusals := min (r.refusals + 1) 65535 } }) ∧
      (r.isolated = false → r.state ≠ .normal →
        Completes .releaseWall tag [n] s (.accepted (.wallState w r.state)) [] [.cc] fun t =>
          t.cc = { s.cc with walls := Table.modify s.cc.walls w fun r =>
            { r with causes := { r.causes with manual := true } } }) ∧
      (r.isolated = false → r.state = .normal → e.warning ≠ 0 →
        Completes .releaseWall tag [n] s (.accepted (.wallState w .warning))
          [(.state, .wallState w .normal .warning causes)] [.cc, .pi, .cm] fun t =>
          t.cc.crossings = s.cc.crossings ∧ Wrote [(e.beaconOut, true)] s t ∧
          Table.get t.cc.walls w = some { r with
            state := .warning, causes := causes, warning := some (s.now + BitVec.ofNat 32 (e.warning * 1000)) } ∧
          ∀ x, x ≠ w → Table.get t.cc.walls x = Table.get s.cc.walls x) ∧
      (r.isolated = false → r.state = .normal → e.warning = 0 →
        CompletesBy .releaseWall tag [n] s (.accepted (.wallState w .released)) [.it, .gs, .cc, .pi, .cm] fun u =>
          enterReleased w { u with cc := { u.cc with walls := Table.modify u.cc.walls w fun r =>
            { r with causes := { r.causes with manual := true } } } })) ∧
  (∀ tag (n : Byte) s, let w := n.toNat
    Taken .reholdWall s →
    (Table.get s.cc.walls w = none → Refuses .reholdWall tag [n] s .noSuch .none []) ∧
    ∀ r e, Table.get s.cc.walls w = some r → Table.get s.model.walls w = some e →
      let none' : WallCauses := { incident := false, manual := false, circuit := false }
      (r.isolated = true → Refuses .reholdWall tag [n] s .badState .isolated []) ∧
      (r.isolated = false →
        (∀ i, FirstOver s e.compA i → Refuses .reholdWall tag [n] s .interlock .incident [e.compA, i.id]) ∧
        (∀ c i, ClearOver s e.compA → e.compB = some c → FirstOver s c i →
          Refuses .reholdWall tag [n] s .interlock .incident [c, i.id]) ∧
        (ClearOver s e.compA → (∀ c, e.compB = some c → ClearOver s c) →
          (r.holder ≠ .normal → Refuses .reholdWall tag [n] s .interlock .holderCircuit
            [if r.holder = .opened then 1 else 2]) ∧
          (r.holder = .normal →
            (r.state = .normal →
              Completes .reholdWall tag [n] s (.accepted (.wallState w .normal)) [] [] fun _ => True) ∧
            (r.state = .warning →
              Completes .reholdWall tag [n] s (.accepted (.wallState w .normal))
                [(.state, .wallState w .warning .normal none')] [.cc, .pi, .cm] fun t =>
                t.cc.crossings = s.cc.crossings ∧ Wrote [(e.beaconOut, false)] s t ∧
                Table.get t.cc.walls w = some { r with state := .normal, causes := none', warning := none } ∧
                ∀ x, x ≠ w → Table.get t.cc.walls x = Table.get s.cc.walls x) ∧
            (r.state = .released →
              Completes .reholdWall tag [n] s (.accepted (.wallState w .normal))
                [(.state, .wallState w .released .normal none')] [.cc, .pi, .cm] fun t =>
                Wrote ((e.holderOut, true) ::
                  (s.model.crossings.filter fun c => c.2.wall = w).map fun c => (c.2.holdOut, true)) s t ∧
                Table.get t.cc.walls w = some { r with
                  state := .normal, causes := none'
                  doors := e.doors.map fun p =>
                    { state := if inputMade s p then .shut else .openHeld, expiry := none } } ∧
                (∀ x, x ≠ w → Table.get t.cc.walls x = Table.get s.cc.walls x) ∧
                (∀ c y, (c, y) ∈ s.model.crossings → y.wall = w → (∀ z, (c, z) ∈ s.model.crossings → z = y) →
                  Table.get s.cc.crossings c ≠ none → Table.get t.cc.crossings c = some {
                    state := if inputMade s y.closedIn then .closed else .opened, expiry := none }) ∧
                ∀ c, (∀ y, (c, y) ∈ s.model.crossings → y.wall ≠ w) →
                  Table.get t.cc.crossings c = Table.get s.cc.crossings c))))) ∧
  (∀ w s r, Table.get s.cc.walls w = some r → r.state = .warning → HasRunOut r.warning s.now →
    Happens (.warningExpiry w) s [.lp, .it, .gs, .cc, .pi, .cm]
      (Same [.lp, .it, .gs, .cc, .pi, .cm] (enterReleased w s))) ∧
  (∀ w id s r e, Table.get s.cc.walls w = some r → Table.get s.model.walls w = some e →
    let d := releaseDemand w id s
    let causes : WallCauses := { r.causes with incident := true }
    let joined : State := { s with cc := { s.cc with walls := Table.modify s.cc.walls w fun r =>
      { r with causes := { r.causes with incident := true } } } }
    (r.isolated = true → d.2 = .isolated ∧ Frame [.lp, .cc] s d.1 ∧ d.1.lp = posted [(.state, .wallRefused w id)] s ∧
      d.1.cc = { s.cc with walls := Table.modify s.cc.walls w fun r =>
        { r with refusals := min (r.refusals + 1) 65535 } }) ∧
    (r.isolated = false → r.state = .warning → d = (joined, .pending)) ∧
    (r.isolated = false → r.state = .released → d = (joined, .done)) ∧
    (r.isolated = false → r.state = .normal → e.warning = 0 → d = (enterReleased w joined, .done)) ∧
    (r.isolated = false → r.state = .normal → e.warning ≠ 0 → d.2 = .pending ∧ Frame [.lp, .cc, .pi, .cm] s d.1 ∧
      d.1.cc.crossings = s.cc.crossings ∧ Wrote [(e.beaconOut, true)] s d.1 ∧
      d.1.lp = posted [(.state, .wallState w .normal .warning causes)] s ∧
      Table.get d.1.cc.walls w = some { r with
        state := .warning, causes := causes, warning := some (s.now + BitVec.ofNat 32 (e.warning * 1000)) } ∧
      ∀ x, x ≠ w → Table.get d.1.cc.walls x = Table.get s.cc.walls x)) ∧
  ∀ w s r e, Table.get s.cc.walls w = some r → Table.get s.model.walls w = some e → r.state ≠ .released →
    let t := enterReleased w s
    Frame [.lp, .it, .gs, .cc, .pi, .cm] s t ∧
    Table.get t.cc.walls w = some { r with
      state := .released, warning := none, releasedAt := some s.now
      doors := r.doors.map fun d => if d.state = .openHeld
        then { state := .closing, expiry := some (s.now + BitVec.ofNat 32 (e.doorTime * 1000)) } else d } ∧
    (∀ x, x ≠ w → Table.get t.cc.walls x = Table.get s.cc.walls x) ∧
    (∀ c x, Table.get s.cc.crossings c = some x →
      ((∃ y, (c, y) ∈ s.model.crossings ∧ y.wall = w) ∧ x.state = .opened → Table.get t.cc.crossings c =
        some { state := .closing, expiry := some (s.now + BitVec.ofNat 32 (e.damperTime * 1000)) }) ∧
      (¬ ((∃ y, (c, y) ∈ s.model.crossings ∧ y.wall = w) ∧ x.state = .opened) →
        Table.get t.cc.crossings c = some x)) ∧
    (∃ u, Frame [.lp, .cc, .pi, .cm] s u ∧ Wrote ([(e.holderOut, false), (e.beaconOut, false)] ++
        (s.model.crossings.filter fun c => c.2.wall = w).map fun c => (c.2.holdOut, false)) s u ∧
      u.lp = posted [(if r.causes.circuit then .fault else .state, .wallState w r.state .released r.causes)] s ∧
      Same [.lp, .gs, .pi, .cm]
        ((groupsOfWall s.model w).foldl (fun v g => (shutdownDemand g .immediate .pathLost v).1) u) t) ∧
    t.it = { s.it with incidents := s.it.incidents.map fun i => { i with actions := i.actions.map fun a =>
      if a.kind = .release ∧ a.target = w ∧ a.result = .pending then { a with result := .done } else a } }

/-- R119, R120: a CLOSING door whose expiry runs out is STUCK, a CLOSING damper JAMMED, with their notices; and the changes
of their inputs, as ChainsCarryTheInputs hands them, by the wall's state; any other change leaves the door or damper as it
is. -/
def Obligations.DoorsAndDampersAreTimed : Prop :=
  (∀ w n s r d, Table.get s.cc.walls w = some r → 1 ≤ n → r.doors[n - 1]? = some d →
    let takes (new : Door) (notices : List (NoticeClass × NoticeBody)) (t : State) : Prop :=
      t.cc = { s.cc with walls := Table.modify s.cc.walls w fun r => { r with doors := r.doors.set (n - 1) new } } ∧
      t.lp = posted notices s
    (d.state = .closing → HasRunOut d.expiry s.now → Happens (.doorCloseExpiry w n) s [.lp, .cc]
      (takes { state := .stuck, expiry := none }
        (if r.state = .released then [(.fault, .doorState w n .stuck)] else []))) ∧
    ∀ e made, Table.get s.model.walls w = some e →
      let t := doorChange w n made s
      Frame [.lp, .cc] s t ∧
      (r.state ≠ .released → takes { state := if made then .shut else .openHeld, expiry := none } [] t) ∧
      (r.state = .released →
        (made = true ∧ (d.state = .shut ∨ d.state = .openHeld) ∨ made = false ∧ d.state ≠ .shut → t = s) ∧
        (made = true → d.state = .closing ∨ d.state = .stuck →
          takes { state := .shut, expiry := none } [(.state, .doorState w n .shut)] t) ∧
        (made = false → d.state = .shut →
          takes { state := .closing, expiry := some (s.now + BitVec.ofNat 32 (e.doorTime * 1000)) }
            [(.state, .doorState w n .closing)] t))) ∧
  ∀ c s r, Table.get s.cc.crossings c = some r →
    let takes (cls : NoticeClass) (new : Crossing) (t : State) : Prop :=
      t.cc = { s.cc with crossings := Table.modify s.cc.crossings c fun _ => new } ∧
      t.lp = posted [(cls, .damperState c new.state)] s
    (r.state = .closing → HasRunOut r.expiry s.now → Happens (.damperExpiry c) s [.lp, .cc]
      (takes .fault { state := .jammed, expiry := none })) ∧
    ∀ y e x made, Table.get s.model.crossings c = some y → Table.get s.model.walls y.wall = some e →
      Table.get s.cc.walls y.wall = some x →
      let t := damperChange c made s
      Frame [.lp, .cc] s t ∧
      (x.state ≠ .released →
        (¬ (r.state = .opened ∧ made = true) → ¬ (r.state = .closed ∧ made = false) → t = s) ∧
        (r.state = .opened → made = true → takes .fault { state := .closed, expiry := none } t) ∧
        (r.state = .closed → made = false → takes .state { state := .opened, expiry := none } t)) ∧
      (x.state = .released →
        (¬ ((r.state = .closing ∨ r.state = .jammed) ∧ made = true) → ¬ (r.state = .closed ∧ made = false) → t = s) ∧
        (r.state = .closing ∨ r.state = .jammed → made = true → takes .state { state := .closed, expiry := none } t) ∧
        (r.state = .closed → made = false →
          takes .state { state := .closing, expiry := some (s.now + BitVec.ofNat 32 (e.damperTime * 1000)) } t))

/-! ## Points and circuits (Chapter 9) -/

/-- R150, R152, R116, R156: DRIVE-POINT refused or accepted by who owns the point in a model that passes OUTPUT; and a write:
it changes its own point alone, and where that changes, the filter of the output's monitor restarts. That the level byte 0 is
on and 1 is off is the model's (log 10), and so are the reason 0 of OWNED (log 53) and that every accepted reply names the
point and the level (log 46). -/
def Obligations.PointsAreDrivenByTheirOwners : Prop :=
  (∀ tag (n level : Byte) s, let p := n.toNat
    Taken .drivePoint s → level.toNat < 2 → OutputHolds s.model → Table.wf s.model.ducts = true →
    Table.wf s.model.groups = true →
    let writes : Prop := Completes .drivePoint tag [n, level] s (.accepted (.point p (decide (level.toNat = 0)))) []
      [.pi, .cm] (Wrote [(p, decide (level.toNat = 0))] s)
    let owned (g : Nat) : Prop := (∃ d e, (d, e) ∈ s.model.ducts ∧ e.group = g ∧ e.infeedOut = p) ∨
      ∃ e, (g, e) ∈ s.model.groups ∧ (e.fanOut = p ∨
        (∃ a ∈ e.aux, a.output = p) ∧ ∃ on, .drive p on ∈ e.shutdown ++ e.restart)
    (128 ≤ p → Refuses .drivePoint tag [n, level] s .noSuch .none []) ∧
    (p < 128 →
      (∀ g, owned g → (∀ r, Table.get s.gs g = some r → r.isolated = false) →
        Refuses .drivePoint tag [n, level] s .owned .none [g]) ∧
      (∀ g r, owned g → Table.get s.gs g = some r → r.isolated = true → writes) ∧
      (∀ g e, (g, e) ∈ s.model.groups → (∃ a ∈ e.aux, a.output = p) →
        (∀ on, .drive p on ∉ e.shutdown ++ e.restart) → writes) ∧
      (∀ d e, (d, e) ∈ s.model.valves → e.output = p → Refuses .drivePoint tag [n, level] s .owned .none [3, d]) ∧
      (∀ d e, (d, e) ∈ s.model.gates → e.output = p → Refuses .drivePoint tag [n, level] s .owned .none [4, d]) ∧
      (∀ w e, (w, e) ∈ s.model.walls → e.holderOut = p ∨ e.beaconOut = p →
        Refuses .drivePoint tag [n, level] s .owned .none [7, w]) ∧
      (∀ c e, (c, e) ∈ s.model.crossings → e.holdOut = p → Refuses .drivePoint tag [n, level] s .owned .none [8, c]) ∧
      (∀ k e, (k, e) ∈ s.model.sirens → e.output = p → Refuses .drivePoint tag [n, level] s .owned .none [9, k]) ∧
      ((∀ g, ¬ owned g) → (∀ e ∈ s.model.groups, ∀ a ∈ e.2.aux, a.output ≠ p) → (∀ e ∈ s.model.valves, e.2.output ≠ p) →
        (∀ e ∈ s.model.gates, e.2.output ≠ p) → (∀ e ∈ s.model.walls, e.2.holderOut ≠ p ∧ e.2.beaconOut ≠ p) →
        (∀ e ∈ s.model.crossings, e.2.holdOut ≠ p) → (∀ e ∈ s.model.sirens, e.2.output ≠ p) → writes))) ∧
  ∀ p on s, p < 128 →
    let t := writeOut p on s
    Frame [.pi, .cm] s t ∧ t.lp = s.lp ∧ t.pi = { s.pi with out := t.pi.out } ∧
    (∀ q, levelOf t.pi.out q = if q = p then on else levelOf s.pi.out q) ∧
    (levelOf s.pi.out p = on → t = s) ∧
    (levelOf s.pi.out p ≠ on →
      (monitorOfOutput s.model p = none → t.cm = s.cm) ∧
      ∀ m e, monitorOfOutput s.model p = some m → Table.get s.model.monitors m = some e →
        t.cm = Table.modify s.cm m fun r => { r with
          candidate := none, count := 0
          blanking := if e.blanking = 0 then none else some (s.now + BitVec.ofNat 32 e.blanking) })

/-- R151, R153, R154: an intact pass of the out-chain, and of a FAULTED in-chain, changes nothing; an intact pass of a GOOD
in-chain takes the raw levels, and starts, keeps or cancels each point's timing; a changed point of debounce time 0 is taken
in the pass itself, in order of the points; a failed pass faults its chain and starts the 100 ms again; a chain returns to
GOOD at their end; a debounce timing that runs out takes the raw level, which is handed on unless it passes from unknown to
not made. A change is handed to each valve, gate, group, door and damper that reads the point: what a valve does with it is
ValvesOpenSettleAndClose, a gate GatesTakeDemandsAndJam, a group DemandsAreTakenByState, a door or damper
DoorsAndDampersAreTimed. Where the 100 ms start is the model's (log 28), and so is the order of the readers, and of the
points of one pass (log 27). -/
def Obligations.ChainsCarryTheInputs : Prop :=
  (∀ s, Happens (.outChainPass true) s [] fun _ => True) ∧
  (∀ s : State,
    let failed : ChainRecord := { state := .faulted, goodAt := some (s.now + 100#32) }
    (Happens (.outChainPass false) s [.lp, .pi] fun t => t.pi = { s.pi with outChain := failed } ∧
      t.lp = posted (if s.pi.outChain.state = .good then [(.fault, .chainState .out .faulted)] else []) s) ∧
    ∀ levels, Happens (.inChainPass false levels) s [.lp, .pi] fun t =>
      t.pi = { s.pi with
        inChain := failed, timing := if s.pi.inChain.state = .good then [] else s.pi.timing } ∧
      t.lp = posted (if s.pi.inChain.state = .good then [(.fault, .chainState .inp .faulted)] else []) s) ∧
  (∀ levels s, s.pi.inChain.state = .faulted → Happens (.inChainPass true levels) s [] fun _ => True) ∧
  (∀ (levels : Levels) (s : State), s.pi.inChain.state = .good →
    let immediate := (List.range 128).filter fun p =>
      decide (Table.get s.pi.debounced p ≠ some (levelOf levels p)) && debounceOf s p == 0
    let u := immediate.foldl (takesAtOnce levels) s
    (immediate = [] → u = s) ∧
    Happens (.inChainPass true levels) s [.lp, .vg, .it, .gs, .cc, .sc, .pi, .cm] fun t =>
      Same [.lp, .vg, .it, .gs, .cc, .sc, .cm] u t ∧ t.pi = { u.pi with raw := levels, timing := t.pi.timing } ∧
      ∀ p, p < 128 → Table.get t.pi.timing p =
        if Table.get s.pi.debounced p = some (levelOf levels p) ∨ debounceOf s p = 0 then none
        else if Table.get s.pi.timing p = none ∨
          Table.get s.pi.debounced p = none ∧ levelOf s.pi.raw p ≠ levelOf levels p then some s.now
        else Table.get s.pi.timing p) ∧
  (∀ s : State,
    (s.pi.outChain.state = .faulted → HasRunOut s.pi.outChain.goodAt s.now →
      Happens (.chainGoodExpiry .out) s [.lp, .pi] fun t =>
        t.pi = { s.pi with outChain := { state := .good, goodAt := none } } ∧
        t.lp = posted [(.state, .chainState .out .good)] s) ∧
    (s.pi.inChain.state = .faulted → HasRunOut s.pi.inChain.goodAt s.now →
      Happens (.chainGoodExpiry .inp) s [.lp, .pi] fun t =>
        t.pi = { s.pi with inChain := { state := .good, goodAt := none } } ∧
        t.lp = posted [(.state, .chainState .inp .good)] s)) ∧
  (∀ p (s : State) since, s.pi.inChain.state = .good → Table.get s.pi.timing p = some since →
    HasRunOut (some (since + BitVec.ofNat 32 (debounceOf s p))) s.now →
    let made := levelOf s.pi.raw p
    let u : State := { s with pi := { s.pi with
      debounced := Table.put s.pi.debounced p made, timing := Table.drop s.pi.timing p } }
    (Table.get s.pi.debounced p = some made ∨ Table.get s.pi.debounced p = none ∧ made = false →
      Happens (.debounceExpiry p) s [.pi] fun t => t.pi = u.pi) ∧
    (Table.get s.pi.debounced p = some (!made) ∨ Table.get s.pi.debounced p = none ∧ made = true →
      Happens (.debounceExpiry p) s [.lp, .vg, .it, .gs, .cc, .sc, .pi, .cm] fun t =>
        inputMade t p = made ∧ t.pi.debounced = u.pi.debounced ∧
        Same [.lp, .vg, .it, .gs, .cc, .sc, .pi, .cm] (handDampers p made (handDoors p made (handGroups p made
          (handGates p made (handValves p made u))))) t)) ∧
  ∀ p made s,
    handValves p made s = ((s.model.valves.filter fun e => e.2.pressureIn = p).map fun e => e.1).foldl
      (fun t d => pressureChange d made t) s ∧
    handGates p made s = ((s.model.gates.filter fun e => e.2.positionIn = p).map fun e => e.1).foldl
      (fun t d => takeGateReport d (positionChange d made t)) s ∧
    handGroups p made s = (s.model.groups.map fun e => e.1).foldl (fun t g => groupInputChange g p made t) s ∧
    handDoors p made s = (s.model.walls.flatMap fun e => ((List.range e.2.doors.length).filter fun k =>
      e.2.doors[k]? = some p).map fun k => (e.1, k + 1)).foldl (fun t x => doorChange x.1 x.2 made t) s ∧
    handDampers p made s = ((s.model.crossings.filter fun e => e.2.closedIn = p).map fun e => e.1).foldl
      (fun t c => damperChange c made t) s

/-- R155 to R157: a sample is read against the band of the output's image level, filtered, and at the filter count changes
the circuit state with its notice and the report to the block that names the monitor: a valve's CIRCUIT, a siren's fault flag
and test fault mark (R143), a wall's holder circuit, by which it is released unless isolated (R125, R130). A sample while
blanking runs is ignored; the blanking expiry that runs out stops. The order of two notices of one event is the model's (log
22). -/
def Obligations.MonitorsFilterSamples : Prop :=
  (∀ (channel : Nat) (level : BitVec 10) (s : State) before after m e r table entry output,
    s.model.monitors = before ++ (m, e) :: after → (∀ x ∈ before, x.2.channel ≠ channel) → e.channel = channel →
    Table.get s.cm m = some r → namedBy s.model m = some (table, entry, output) →
    let low := if levelOf s.pi.out output then e.onLow else e.offLow
    let high := if levelOf s.pi.out output then e.onHigh else e.offHigh
    let reading : Circuit := if level.toNat < low then .opened else if high < level.toNat then .shorted else .normal
    let n : Nat := if r.candidate = some reading then r.count + 1 else 1
    let takes (new : Monitor) (t : State) : Prop := t.cm = Table.modify s.cm m fun _ => new
    let note : NoticeClass × NoticeBody :=
      (if reading = .normal then .state else .fault, .circuitState m table entry r.state reading)
    let changed : Monitor := { r with state := reading, candidate := none, count := 0 }
    (r.blanking ≠ none → Happens (.monitorSample channel level) s [] fun _ => True) ∧
    (r.blanking = none →
      (reading = r.state → Happens (.monitorSample channel level) s [.cm] (takes { r with candidate := none, count := 0 })) ∧
      (reading ≠ r.state → n < e.filter →
        Happens (.monitorSample channel level) s [.cm] (takes { r with candidate := some reading, count := n })) ∧
      (reading ≠ r.state → e.filter ≤ n →
        (table = .valve → Happens (.monitorSample channel level) s [.lp, .vg, .cm] fun t =>
          takes changed t ∧ t.lp = posted [note] s ∧ t.vg = { s.vg with
            valves := Table.modify s.vg.valves entry fun v => { v with circuit := decide (reading ≠ .normal) } }) ∧
        (table = .siren → Happens (.monitorSample channel level) s [.lp, .sc, .cm] fun t =>
          takes changed t ∧ t.lp = posted [note] s ∧ t.sc = { s.sc with
            sirens := Table.modify s.sc.sirens entry fun x =>
              if reading = .normal then { x with fault := false }
              else { x with fault := true, testFault := x.testFault || (s.sc.test.isSome && x.testDemand) } }) ∧
        ∀ w, table = .wall → Table.get s.cc.walls entry = some w → Table.get s.model.walls entry ≠ none →
          (reading = .normal ∨ w.isolated = true → Happens (.monitorSample channel level) s [.lp, .cc, .cm] fun t =>
            takes changed t ∧ t.lp = posted [note] s ∧ t.cc = { s.cc with
              walls := Table.modify s.cc.walls entry fun x => { x with holder := reading } }) ∧
          (reading ≠ .normal → w.isolated = false →
            let u : State := postNotice note.1 note.2 { s with
              cm := Table.modify s.cm m fun _ => changed
              cc := { s.cc with walls := Table.modify s.cc.walls entry fun x =>
                { x with holder := reading, causes := { x.causes with circuit := true } } } }
            Happens (.monitorSample channel level) s [.lp, .it, .gs, .cc, .pi, .cm]
              (Same [.lp, .it, .gs, .cc, .pi, .cm] (if w.state = .released then u else enterReleased entry u)))))) ∧
  ∀ m s r, Table.get s.cm m = some r → HasRunOut r.blanking s.now →
    Happens (.blankingExpiry m) s [.cm] fun t =>
      Table.get t.cm m = some { r with blanking := none } ∧ ∀ x, x ≠ m → Table.get t.cm x = Table.get s.cm x

/-! ## Isolation and walk tests (Chapter 10) -/

/-- R161, with R24, R67, R75, R110, R130, R143, R163 to R165: ISOLATE and RESTORE of each of the six kinds: the refusals,
the flag with its notice, and what the restore does: a detector's state is derived anew, a gate jammed by its input, a wall
released by its circuit or by the level-3 incident it adjoins, a siren given the demands held, a group demanded or tripped.
That an element already as asked is accepted without change is stated for each, a RESTORE in whatever state the element is.
A kind byte beyond the six is refused BAD-VALUE before its owner judges it (log 13); the order of two notices of one event
is log 22; the reason 0 of the BUSY of a valve's windows is the model's (log 53), and so is the reason STATE of the refusals
that name a state (log 11); that the reply names the element's kind beside it is the model's (log 57). -/
def Obligations.IsolationActsOnItsElement : Prop :=
  (∀ tag (x : Byte) s (on : Bool), let n := x.toNat
    let k : ReqKind := if on then .isolate else .restore
    let reply (el : ElementKind) : ReplyStatus := .accepted (.element el n on)
    let note (el : ElementKind) : NoticeClass × NoticeBody := (.state, .isolation el n on)
    Taken k s →
    (∀ kind : Byte, 6 ≤ kind.toNat → Refuses k tag [kind, x] s .badValue .field [0]) ∧
    ((∀ r, Table.get s.lc.roster n = some r → r.kind = .flow) → Refuses k tag [0#8, x] s .noSuch .none []) ∧
    (Table.get s.vg.valves n = none → Refuses k tag [1#8, x] s .noSuch .none []) ∧
    (Table.get s.vg.gates n = none → Refuses k tag [2#8, x] s .noSuch .none []) ∧
    (Table.get s.cc.walls n = none → Refuses k tag [3#8, x] s .noSuch .none []) ∧
    (Table.get s.sc.sirens n = none → Refuses k tag [4#8, x] s .noSuch .none []) ∧
    (Table.get s.gs n = none → Refuses k tag [5#8, x] s .noSuch .none []) ∧
    (∀ r role, Table.get s.lc.roster n = some r → r.kind = .detector role →
      let new : DeviceState := if on then .isolated else if 3 ≤ r.misses then .missing else match r.flags with
        | none => .unknown
        | some f => if f.soiled = true ∨ f.fault = true then .degraded else .normal
      let u : State := { s with lc := { s.lc with roster := Table.modify s.lc.roster n fun r => { r with state := new } } }
      if (r.state = .isolated ↔ on = true) then Completes k tag [0#8, x] s (reply .detector) [] [] fun _ => True
      else Completes k tag [0#8, x] s (reply .detector)
        (stateNotices n r new (ductBlind s r.duct) (ductBlind u r.duct)) [.lc] fun t => t.lc = u.lc) ∧
    (∀ v, Table.get s.vg.valves n = some v →
      if on = true ∧ v.queue ≠ [] then Refuses k tag [1#8, x] s .busy .none [v.queue.length]
      else if v.isolated = on then Completes k tag [1#8, x] s (reply .valve) [] [] fun _ => True
      else Completes k tag [1#8, x] s (reply .valve) [note .valve] [.vg] fun t =>
        t.vg = { s.vg with valves := Table.modify s.vg.valves n fun v => { v with isolated := on } }) ∧
    (∀ g, Table.get s.vg.gates n = some g →
      if on = true ∧ g.state ≠ .normal then Refuses k tag [2#8, x] s .badState .state
        [match g.state with | .normal => 0 | .toDivert => 1 | .diverted => 2 | .toNormal => 3 | .jammed => 4]
      else if g.isolated = on then Completes k tag [2#8, x] s (reply .gate) [] [] fun _ => True
      else ∀ e, Table.get s.model.gates n = some e → g.state = .normal →
        if on = false ∧ inputMade s e.positionIn = true then
          Completes k tag [2#8, x] s (reply .gate) [note .gate, (.fault, .gateState n .normal .jammed)] [.vg] fun t =>
            t.vg = { s.vg with
              gates := Table.modify s.vg.gates n fun g => { g with isolated := false, state := .jammed } }
        else Completes k tag [2#8, x] s (reply .gate) [note .gate] [.vg] fun t =>
          t.vg = { s.vg with gates := Table.modify s.vg.gates n fun g => { g with isolated := on } }) ∧
    (∀ w, Table.get s.cc.walls n = some w →
      (on = true → w.state ≠ .normal → Refuses k tag [3#8, x] s .badState .state [if w.state = .warning then 1 else 2]) ∧
      (w.state = .normal ∨ on = false → w.isolated = on → Completes k tag [3#8, x] s (reply .wall) [] [] fun _ => True) ∧
      (on = true → w.state = .normal → w.isolated = false → Completes k tag [3#8, x] s (reply .wall) [note .wall] [.cc]
        fun t => t.cc = { s.cc with walls := Table.modify s.cc.walls n fun w => { w with isolated := true } })) ∧
    (∀ r, Table.get s.sc.sirens n = some r → r.isolated = on →
      Completes k tag [4#8, x] s (reply .siren) [] [] fun _ => True) ∧
    ∀ g, Table.get s.gs n = some g →
      (on = true → g.state = .stopping ∨ g.state = .starting →
        Refuses k tag [5#8, x] s .busy .state [if g.state = .stopping then 1 else 3]) ∧
      (g.state = .running ∨ g.state = .stopped ∨ on = false → g.isolated = on →
        Completes k tag [5#8, x] s (reply .group) [] [] fun _ => True) ∧
      (on = true → g.state = .running ∨ g.state = .stopped → g.isolated = false →
        Completes k tag [5#8, x] s (reply .group) [note .group] [.gs] fun t =>
          t.gs = Table.modify s.gs n fun g => { g with isolated := true })) ∧
  (∀ tag (x : Byte) s r e, let n := x.toNat
    Table.get s.sc.sirens n = some r → Table.get s.model.sirens n = some e →
    (Taken .isolate s → r.isolated = false →
      Completes .isolate tag [4#8, x] s (.accepted (.element .siren n true)) [(.state, .isolation .siren n true)]
        [.sc, .pi, .cm] (Same [.sc, .pi, .cm] (eachSiren [n] (fun r => { r with
          isolated := true, demands := [], testDemand := false, testFault := false }) s))) ∧
    (Taken .restore s → r.isolated = true → ∃ held : List Demand,
      (∀ d, d ∈ held ↔ ∃ i ∈ s.it.incidents, 2 ≤ i.level ∧ d.incident = i.id ∧ (d.evacuate = true ↔ i.level = 3) ∧
        d.silenced = i.flags.silenced ∧
        ∃ c ∈ originCompartments s.model i, inDemandSpan s.model c d.evacuate e.sector = true) ∧
      Completes .restore tag [4#8, x] s (.accepted (.element .siren n false)) [(.state, .isolation .siren n false)]
        [.sc, .pi, .cm] (Same [.sc, .pi, .cm] (eachSiren [n] (fun r => { r with
          isolated := false, demands := held, testDemand := s.sc.test.isSome,
          testFault := s.sc.test.isSome && r.fault }) s)))) ∧
  (∀ tag (x : Byte) s w e, let n := x.toNat
    Table.get s.cc.walls n = some w → Table.get s.model.walls n = some e → Taken .restore s → w.isolated = true →
    w.state = .normal →
    let reply : ReplyStatus := .accepted (.element .wall n false)
    let note : NoticeClass × NoticeBody := (.state, .isolation .wall n false)
    let released (causes : WallCauses → WallCauses) (u : State) : State := enterReleased n (postNotice note.1 note.2
      { u with cc := { u.cc with walls := Table.modify u.cc.walls n fun w =>
        { w with isolated := false, causes := causes w.causes } } })
    let adjoins3 : Prop := ¬ ClearOver s e.compA ∨ ∃ c, e.compB = some c ∧ ¬ ClearOver s c
    (w.holder ≠ .normal → CompletesBy .restore tag [3#8, x] s reply [.it, .gs, .cc, .pi, .cm]
      (released fun c => { c with circuit := true })) ∧
    (w.holder = .normal → adjoins3 → e.warning = 0 → CompletesBy .restore tag [3#8, x] s reply
      [.it, .gs, .cc, .pi, .cm] (released fun c => { c with incident := true })) ∧
    (w.holder = .normal → adjoins3 → e.warning ≠ 0 →
      let causes : WallCauses := { w.causes with incident := true }
      Completes .restore tag [3#8, x] s reply [note, (.state, .wallState n .normal .warning causes)] [.cc, .pi, .cm]
        fun t => t.cc.crossings = s.cc.crossings ∧ Wrote [(e.beaconOut, true)] s t ∧
          Table.get t.cc.walls n = some { w with
            isolated := false, state := .warning, causes := causes
            warning := some (s.now + BitVec.ofNat 32 (e.warning * 1000)) } ∧
          ∀ y, y ≠ n → Table.get t.cc.walls y = Table.get s.cc.walls y) ∧
    (w.holder = .normal → ¬ adjoins3 → Completes .restore tag [3#8, x] s reply [note] [.cc] fun t =>
      t.cc = { s.cc with walls := Table.modify s.cc.walls n fun w => { w with isolated := false } })) ∧
  ∀ tag (x : Byte) s g e, let n := x.toNat
    Table.get s.gs n = some g → Table.get s.model.groups n = some e → Taken .restore s → g.isolated = true →
    g.state = .running ∨ g.state = .stopped →
    let reply : ReplyStatus := .accepted (.element .group n false)
    let demanded : Prop := (∃ d ∈ ductsOfGroup s.model n, ¬ ClearOnDuct s d) ∨
      ∃ w ∈ wallsCrossed s.model n, ∃ r, Table.get s.cc.walls w = some r ∧ r.state = .released
    let restored (u : State) : State := postNotice .state (.isolation .group n false)
      { u with gs := Table.modify u.gs n fun g => { g with isolated := false } }
    let trips : Prop := g.state = .running ∧ inputMade s e.fanIn = false
    (demanded → CompletesBy .restore tag [5#8, x] s reply [.gs, .pi, .cm] fun u =>
      (shutdownDemand n .normal .restore (restored u)).1) ∧
    (¬ demanded → trips → CompletesBy .restore tag [5#8, x] s reply [.gs, .pi, .cm] fun u =>
      (shutdownDemand n .normal .fanTrip (postNotice .fault (.fanTrip n) (restored u))).1) ∧
    (¬ demanded → ¬ trips → Completes .restore tag [5#8, x] s reply [(.state, .isolation .group n false)] [.gs] fun t =>
      t.gs = Table.modify s.gs n fun g => { g with isolated := false })

/-- R167, R169: WALK-START judged in the order of its table, begins a walk or extends one; a walk ends at WALK-END or at its
expiry: OFF, its expiry stopped, with WALK-ENDED naming the seen and the unseen detectors. -/
def Obligations.WalksBeginAndEnd : Prop :=
  (∀ tag (n minutes : Byte) s, let d := n.toNat
    Taken .walkStart s →
    (Table.get s.lc.walks d = none → Refuses .walkStart tag [n, minutes] s .noSuch .none []) ∧
    ∀ w, Table.get s.lc.walks d = some w →
      (minutes.toNat < 1 ∨ 60 < minutes.toNat → Refuses .walkStart tag [n, minutes] s .badValue .field [1]) ∧
      (1 ≤ minutes.toNat → minutes.toNat ≤ 60 →
        (∀ i, incidentOf s (.duct d) = some i → Refuses .walkStart tag [n, minutes] s .badState .inIncident [i.id]) ∧
        (incidentOf s (.duct d) = none →
          (∀ v, Table.get s.vg.valves d = some v → v.queue ≠ [] →
            Refuses .walkStart tag [n, minutes] s .badState .valveBusy []) ∧
          ((∀ v, Table.get s.vg.valves d = some v → v.queue = []) →
            let expiry : PartTime := s.now + BitVec.ofNat 32 (minutes.toNat * 60000)
            Completes .walkStart tag [n, minutes] s (.accepted (.walk d expiry)) [] [.lc] fun t =>
              t.lc = { s.lc with walks := t.lc.walks } ∧
              Table.get t.lc.walks d = some (if w.active then { w with expiry := some expiry }
                else { active := true, expiry := some expiry, startedAt := some s.now, sparks := 0, seen := [] }) ∧
              ∀ x, x ≠ d → Table.get t.lc.walks x = Table.get s.lc.walks x)))) ∧
  (∀ tag (n : Byte) s, Taken .walkEnd s → Table.get s.lc.walks n.toNat = none →
    Refuses .walkEnd tag [n] s .noSuch .none []) ∧
  ∀ s d w, Table.get s.lc.walks d = some w → Table.wf s.lc.roster = true → ∃ unseen : List Nat,
    unseen.Pairwise (· < ·) ∧
    (∀ a, a ∈ unseen ↔ a ∉ w.seen ∧ ∃ r, (a, r) ∈ s.lc.roster ∧ r.duct = d ∧ r.kind ≠ .flow) ∧
    let note (byExpiry : Bool) : List (NoticeClass × NoticeBody) :=
      [(.state, .walkEnded d byExpiry w.startedAt w.sparks w.seen unseen)]
    let off (t : State) : Prop := t.lc = { s.lc with
      walks := Table.modify s.lc.walks d fun w => { w with active := false, expiry := none } }
    (w.active = true → HasRunOut w.expiry s.now → Happens (.walkExpiry d) s [.lp, .lc] fun t =>
      off t ∧ t.lp = posted (note true) s) ∧
    ∀ tag (n : Byte), n.toNat = d → Taken .walkEnd s →
      (w.active = false → Refuses .walkEnd tag [n] s .badState .notWalking []) ∧
      (w.active = true → Completes .walkEnd tag [n] s (.accepted .nothing) (note false) [.lc] off)
end

