-- ==== Sys2Proof/Laws/State.lean ====
section
/-! SUPPORT. One lemma per field per update of the state, each true by rfl, so that no later proof unfolds a record
update. -/

namespace Sys2Proof.Machine

variable (s : State)

/-! `updDevice` -/

@[simp] theorem updDevice_now (a : Nat) (f : Device → Device) : (updDevice a f s).now = s.now := rfl
@[simp] theorem updDevice_pending (a : Nat) (f : Device → Device) : (updDevice a f s).pending = s.pending := rfl
@[simp] theorem updDevice_lines (a : Nat) (f : Device → Device) : (updDevice a f s).lines = s.lines := rfl
@[simp] theorem updDevice_lp (a : Nat) (f : Device → Device) : (updDevice a f s).lp = s.lp := rfl
@[simp] theorem updDevice_tables (a : Nat) (f : Device → Device) : (updDevice a f s).tables = s.tables := rfl
@[simp] theorem updDevice_model (a : Nat) (f : Device → Device) : (updDevice a f s).model = s.model := rfl
@[simp] theorem updDevice_lc (a : Nat) (f : Device → Device) : (updDevice a f s).lc = { s.lc with roster := Table.modify s.lc.roster a f } := rfl
@[simp] theorem updDevice_tc (a : Nat) (f : Device → Device) : (updDevice a f s).tc = s.tc := rfl
@[simp] theorem updDevice_vg (a : Nat) (f : Device → Device) : (updDevice a f s).vg = s.vg := rfl
@[simp] theorem updDevice_it (a : Nat) (f : Device → Device) : (updDevice a f s).it = s.it := rfl
@[simp] theorem updDevice_gs (a : Nat) (f : Device → Device) : (updDevice a f s).gs = s.gs := rfl
@[simp] theorem updDevice_cc (a : Nat) (f : Device → Device) : (updDevice a f s).cc = s.cc := rfl
@[simp] theorem updDevice_sc (a : Nat) (f : Device → Device) : (updDevice a f s).sc = s.sc := rfl
@[simp] theorem updDevice_pi (a : Nat) (f : Device → Device) : (updDevice a f s).pi = s.pi := rfl
@[simp] theorem updDevice_cm (a : Nat) (f : Device → Device) : (updDevice a f s).cm = s.cm := rfl

/-! `updWalk` -/

@[simp] theorem updWalk_now (d : Nat) (f : Walk → Walk) : (updWalk d f s).now = s.now := rfl
@[simp] theorem updWalk_pending (d : Nat) (f : Walk → Walk) : (updWalk d f s).pending = s.pending := rfl
@[simp] theorem updWalk_lines (d : Nat) (f : Walk → Walk) : (updWalk d f s).lines = s.lines := rfl
@[simp] theorem updWalk_lp (d : Nat) (f : Walk → Walk) : (updWalk d f s).lp = s.lp := rfl
@[simp] theorem updWalk_tables (d : Nat) (f : Walk → Walk) : (updWalk d f s).tables = s.tables := rfl
@[simp] theorem updWalk_model (d : Nat) (f : Walk → Walk) : (updWalk d f s).model = s.model := rfl
@[simp] theorem updWalk_lc (d : Nat) (f : Walk → Walk) : (updWalk d f s).lc = { s.lc with walks := Table.modify s.lc.walks d f } := rfl
@[simp] theorem updWalk_tc (d : Nat) (f : Walk → Walk) : (updWalk d f s).tc = s.tc := rfl
@[simp] theorem updWalk_vg (d : Nat) (f : Walk → Walk) : (updWalk d f s).vg = s.vg := rfl
@[simp] theorem updWalk_it (d : Nat) (f : Walk → Walk) : (updWalk d f s).it = s.it := rfl
@[simp] theorem updWalk_gs (d : Nat) (f : Walk → Walk) : (updWalk d f s).gs = s.gs := rfl
@[simp] theorem updWalk_cc (d : Nat) (f : Walk → Walk) : (updWalk d f s).cc = s.cc := rfl
@[simp] theorem updWalk_sc (d : Nat) (f : Walk → Walk) : (updWalk d f s).sc = s.sc := rfl
@[simp] theorem updWalk_pi (d : Nat) (f : Walk → Walk) : (updWalk d f s).pi = s.pi := rfl
@[simp] theorem updWalk_cm (d : Nat) (f : Walk → Walk) : (updWalk d f s).cm = s.cm := rfl

/-! `updVelocity` -/

@[simp] theorem updVelocity_now (d : Nat) (f : Velocity → Velocity) : (updVelocity d f s).now = s.now := rfl
@[simp] theorem updVelocity_pending (d : Nat) (f : Velocity → Velocity) : (updVelocity d f s).pending = s.pending := rfl
@[simp] theorem updVelocity_lines (d : Nat) (f : Velocity → Velocity) : (updVelocity d f s).lines = s.lines := rfl
@[simp] theorem updVelocity_lp (d : Nat) (f : Velocity → Velocity) : (updVelocity d f s).lp = s.lp := rfl
@[simp] theorem updVelocity_tables (d : Nat) (f : Velocity → Velocity) : (updVelocity d f s).tables = s.tables := rfl
@[simp] theorem updVelocity_model (d : Nat) (f : Velocity → Velocity) : (updVelocity d f s).model = s.model := rfl
@[simp] theorem updVelocity_lc (d : Nat) (f : Velocity → Velocity) : (updVelocity d f s).lc = s.lc := rfl
@[simp] theorem updVelocity_tc (d : Nat) (f : Velocity → Velocity) : (updVelocity d f s).tc = Table.modify s.tc d f := rfl
@[simp] theorem updVelocity_vg (d : Nat) (f : Velocity → Velocity) : (updVelocity d f s).vg = s.vg := rfl
@[simp] theorem updVelocity_it (d : Nat) (f : Velocity → Velocity) : (updVelocity d f s).it = s.it := rfl
@[simp] theorem updVelocity_gs (d : Nat) (f : Velocity → Velocity) : (updVelocity d f s).gs = s.gs := rfl
@[simp] theorem updVelocity_cc (d : Nat) (f : Velocity → Velocity) : (updVelocity d f s).cc = s.cc := rfl
@[simp] theorem updVelocity_sc (d : Nat) (f : Velocity → Velocity) : (updVelocity d f s).sc = s.sc := rfl
@[simp] theorem updVelocity_pi (d : Nat) (f : Velocity → Velocity) : (updVelocity d f s).pi = s.pi := rfl
@[simp] theorem updVelocity_cm (d : Nat) (f : Velocity → Velocity) : (updVelocity d f s).cm = s.cm := rfl

/-! `updValve` -/

@[simp] theorem updValve_now (d : Nat) (f : Valve → Valve) : (updValve d f s).now = s.now := rfl
@[simp] theorem updValve_pending (d : Nat) (f : Valve → Valve) : (updValve d f s).pending = s.pending := rfl
@[simp] theorem updValve_lines (d : Nat) (f : Valve → Valve) : (updValve d f s).lines = s.lines := rfl
@[simp] theorem updValve_lp (d : Nat) (f : Valve → Valve) : (updValve d f s).lp = s.lp := rfl
@[simp] theorem updValve_tables (d : Nat) (f : Valve → Valve) : (updValve d f s).tables = s.tables := rfl
@[simp] theorem updValve_model (d : Nat) (f : Valve → Valve) : (updValve d f s).model = s.model := rfl
@[simp] theorem updValve_lc (d : Nat) (f : Valve → Valve) : (updValve d f s).lc = s.lc := rfl
@[simp] theorem updValve_tc (d : Nat) (f : Valve → Valve) : (updValve d f s).tc = s.tc := rfl
@[simp] theorem updValve_vg (d : Nat) (f : Valve → Valve) : (updValve d f s).vg = { s.vg with valves := Table.modify s.vg.valves d f } := rfl
@[simp] theorem updValve_it (d : Nat) (f : Valve → Valve) : (updValve d f s).it = s.it := rfl
@[simp] theorem updValve_gs (d : Nat) (f : Valve → Valve) : (updValve d f s).gs = s.gs := rfl
@[simp] theorem updValve_cc (d : Nat) (f : Valve → Valve) : (updValve d f s).cc = s.cc := rfl
@[simp] theorem updValve_sc (d : Nat) (f : Valve → Valve) : (updValve d f s).sc = s.sc := rfl
@[simp] theorem updValve_pi (d : Nat) (f : Valve → Valve) : (updValve d f s).pi = s.pi := rfl
@[simp] theorem updValve_cm (d : Nat) (f : Valve → Valve) : (updValve d f s).cm = s.cm := rfl

/-! `updGate` -/

@[simp] theorem updGate_now (d : Nat) (f : Gate → Gate) : (updGate d f s).now = s.now := rfl
@[simp] theorem updGate_pending (d : Nat) (f : Gate → Gate) : (updGate d f s).pending = s.pending := rfl
@[simp] theorem updGate_lines (d : Nat) (f : Gate → Gate) : (updGate d f s).lines = s.lines := rfl
@[simp] theorem updGate_lp (d : Nat) (f : Gate → Gate) : (updGate d f s).lp = s.lp := rfl
@[simp] theorem updGate_tables (d : Nat) (f : Gate → Gate) : (updGate d f s).tables = s.tables := rfl
@[simp] theorem updGate_model (d : Nat) (f : Gate → Gate) : (updGate d f s).model = s.model := rfl
@[simp] theorem updGate_lc (d : Nat) (f : Gate → Gate) : (updGate d f s).lc = s.lc := rfl
@[simp] theorem updGate_tc (d : Nat) (f : Gate → Gate) : (updGate d f s).tc = s.tc := rfl
@[simp] theorem updGate_vg (d : Nat) (f : Gate → Gate) : (updGate d f s).vg = { s.vg with gates := Table.modify s.vg.gates d f } := rfl
@[simp] theorem updGate_it (d : Nat) (f : Gate → Gate) : (updGate d f s).it = s.it := rfl
@[simp] theorem updGate_gs (d : Nat) (f : Gate → Gate) : (updGate d f s).gs = s.gs := rfl
@[simp] theorem updGate_cc (d : Nat) (f : Gate → Gate) : (updGate d f s).cc = s.cc := rfl
@[simp] theorem updGate_sc (d : Nat) (f : Gate → Gate) : (updGate d f s).sc = s.sc := rfl
@[simp] theorem updGate_pi (d : Nat) (f : Gate → Gate) : (updGate d f s).pi = s.pi := rfl
@[simp] theorem updGate_cm (d : Nat) (f : Gate → Gate) : (updGate d f s).cm = s.cm := rfl

/-! `updSparks` -/

@[simp] theorem updSparks_now (d : Nat) (f : DuctSparks → DuctSparks) : (updSparks d f s).now = s.now := rfl
@[simp] theorem updSparks_pending (d : Nat) (f : DuctSparks → DuctSparks) : (updSparks d f s).pending = s.pending := rfl
@[simp] theorem updSparks_lines (d : Nat) (f : DuctSparks → DuctSparks) : (updSparks d f s).lines = s.lines := rfl
@[simp] theorem updSparks_lp (d : Nat) (f : DuctSparks → DuctSparks) : (updSparks d f s).lp = s.lp := rfl
@[simp] theorem updSparks_tables (d : Nat) (f : DuctSparks → DuctSparks) : (updSparks d f s).tables = s.tables := rfl
@[simp] theorem updSparks_model (d : Nat) (f : DuctSparks → DuctSparks) : (updSparks d f s).model = s.model := rfl
@[simp] theorem updSparks_lc (d : Nat) (f : DuctSparks → DuctSparks) : (updSparks d f s).lc = s.lc := rfl
@[simp] theorem updSparks_tc (d : Nat) (f : DuctSparks → DuctSparks) : (updSparks d f s).tc = s.tc := rfl
@[simp] theorem updSparks_vg (d : Nat) (f : DuctSparks → DuctSparks) : (updSparks d f s).vg = s.vg := rfl
@[simp] theorem updSparks_it (d : Nat) (f : DuctSparks → DuctSparks) : (updSparks d f s).it = { s.it with sparks := Table.modify s.it.sparks d f } := rfl
@[simp] theorem updSparks_gs (d : Nat) (f : DuctSparks → DuctSparks) : (updSparks d f s).gs = s.gs := rfl
@[simp] theorem updSparks_cc (d : Nat) (f : DuctSparks → DuctSparks) : (updSparks d f s).cc = s.cc := rfl
@[simp] theorem updSparks_sc (d : Nat) (f : DuctSparks → DuctSparks) : (updSparks d f s).sc = s.sc := rfl
@[simp] theorem updSparks_pi (d : Nat) (f : DuctSparks → DuctSparks) : (updSparks d f s).pi = s.pi := rfl
@[simp] theorem updSparks_cm (d : Nat) (f : DuctSparks → DuctSparks) : (updSparks d f s).cm = s.cm := rfl

/-! `updIncident` -/

@[simp] theorem updIncident_now (n : Nat) (f : Incident → Incident) : (updIncident n f s).now = s.now := rfl
@[simp] theorem updIncident_pending (n : Nat) (f : Incident → Incident) : (updIncident n f s).pending = s.pending := rfl
@[simp] theorem updIncident_lines (n : Nat) (f : Incident → Incident) : (updIncident n f s).lines = s.lines := rfl
@[simp] theorem updIncident_lp (n : Nat) (f : Incident → Incident) : (updIncident n f s).lp = s.lp := rfl
@[simp] theorem updIncident_tables (n : Nat) (f : Incident → Incident) : (updIncident n f s).tables = s.tables := rfl
@[simp] theorem updIncident_model (n : Nat) (f : Incident → Incident) : (updIncident n f s).model = s.model := rfl
@[simp] theorem updIncident_lc (n : Nat) (f : Incident → Incident) : (updIncident n f s).lc = s.lc := rfl
@[simp] theorem updIncident_tc (n : Nat) (f : Incident → Incident) : (updIncident n f s).tc = s.tc := rfl
@[simp] theorem updIncident_vg (n : Nat) (f : Incident → Incident) : (updIncident n f s).vg = s.vg := rfl
@[simp] theorem updIncident_it (n : Nat) (f : Incident → Incident) : (updIncident n f s).it = { s.it with incidents := s.it.incidents.map fun i => if i.id = n then f i else i } := rfl
@[simp] theorem updIncident_gs (n : Nat) (f : Incident → Incident) : (updIncident n f s).gs = s.gs := rfl
@[simp] theorem updIncident_cc (n : Nat) (f : Incident → Incident) : (updIncident n f s).cc = s.cc := rfl
@[simp] theorem updIncident_sc (n : Nat) (f : Incident → Incident) : (updIncident n f s).sc = s.sc := rfl
@[simp] theorem updIncident_pi (n : Nat) (f : Incident → Incident) : (updIncident n f s).pi = s.pi := rfl
@[simp] theorem updIncident_cm (n : Nat) (f : Incident → Incident) : (updIncident n f s).cm = s.cm := rfl

/-! `updGroup` -/

@[simp] theorem updGroup_now (g : Nat) (f : Group → Group) : (updGroup g f s).now = s.now := rfl
@[simp] theorem updGroup_pending (g : Nat) (f : Group → Group) : (updGroup g f s).pending = s.pending := rfl
@[simp] theorem updGroup_lines (g : Nat) (f : Group → Group) : (updGroup g f s).lines = s.lines := rfl
@[simp] theorem updGroup_lp (g : Nat) (f : Group → Group) : (updGroup g f s).lp = s.lp := rfl
@[simp] theorem updGroup_tables (g : Nat) (f : Group → Group) : (updGroup g f s).tables = s.tables := rfl
@[simp] theorem updGroup_model (g : Nat) (f : Group → Group) : (updGroup g f s).model = s.model := rfl
@[simp] theorem updGroup_lc (g : Nat) (f : Group → Group) : (updGroup g f s).lc = s.lc := rfl
@[simp] theorem updGroup_tc (g : Nat) (f : Group → Group) : (updGroup g f s).tc = s.tc := rfl
@[simp] theorem updGroup_vg (g : Nat) (f : Group → Group) : (updGroup g f s).vg = s.vg := rfl
@[simp] theorem updGroup_it (g : Nat) (f : Group → Group) : (updGroup g f s).it = s.it := rfl
@[simp] theorem updGroup_gs (g : Nat) (f : Group → Group) : (updGroup g f s).gs = Table.modify s.gs g f := rfl
@[simp] theorem updGroup_cc (g : Nat) (f : Group → Group) : (updGroup g f s).cc = s.cc := rfl
@[simp] theorem updGroup_sc (g : Nat) (f : Group → Group) : (updGroup g f s).sc = s.sc := rfl
@[simp] theorem updGroup_pi (g : Nat) (f : Group → Group) : (updGroup g f s).pi = s.pi := rfl
@[simp] theorem updGroup_cm (g : Nat) (f : Group → Group) : (updGroup g f s).cm = s.cm := rfl

/-! `updWall` -/

@[simp] theorem updWall_now (w : Nat) (f : Wall → Wall) : (updWall w f s).now = s.now := rfl
@[simp] theorem updWall_pending (w : Nat) (f : Wall → Wall) : (updWall w f s).pending = s.pending := rfl
@[simp] theorem updWall_lines (w : Nat) (f : Wall → Wall) : (updWall w f s).lines = s.lines := rfl
@[simp] theorem updWall_lp (w : Nat) (f : Wall → Wall) : (updWall w f s).lp = s.lp := rfl
@[simp] theorem updWall_tables (w : Nat) (f : Wall → Wall) : (updWall w f s).tables = s.tables := rfl
@[simp] theorem updWall_model (w : Nat) (f : Wall → Wall) : (updWall w f s).model = s.model := rfl
@[simp] theorem updWall_lc (w : Nat) (f : Wall → Wall) : (updWall w f s).lc = s.lc := rfl
@[simp] theorem updWall_tc (w : Nat) (f : Wall → Wall) : (updWall w f s).tc = s.tc := rfl
@[simp] theorem updWall_vg (w : Nat) (f : Wall → Wall) : (updWall w f s).vg = s.vg := rfl
@[simp] theorem updWall_it (w : Nat) (f : Wall → Wall) : (updWall w f s).it = s.it := rfl
@[simp] theorem updWall_gs (w : Nat) (f : Wall → Wall) : (updWall w f s).gs = s.gs := rfl
@[simp] theorem updWall_cc (w : Nat) (f : Wall → Wall) : (updWall w f s).cc = { s.cc with walls := Table.modify s.cc.walls w f } := rfl
@[simp] theorem updWall_sc (w : Nat) (f : Wall → Wall) : (updWall w f s).sc = s.sc := rfl
@[simp] theorem updWall_pi (w : Nat) (f : Wall → Wall) : (updWall w f s).pi = s.pi := rfl
@[simp] theorem updWall_cm (w : Nat) (f : Wall → Wall) : (updWall w f s).cm = s.cm := rfl

/-! `updCrossing` -/

@[simp] theorem updCrossing_now (c : Nat) (f : Crossing → Crossing) : (updCrossing c f s).now = s.now := rfl
@[simp] theorem updCrossing_pending (c : Nat) (f : Crossing → Crossing) : (updCrossing c f s).pending = s.pending := rfl
@[simp] theorem updCrossing_lines (c : Nat) (f : Crossing → Crossing) : (updCrossing c f s).lines = s.lines := rfl
@[simp] theorem updCrossing_lp (c : Nat) (f : Crossing → Crossing) : (updCrossing c f s).lp = s.lp := rfl
@[simp] theorem updCrossing_tables (c : Nat) (f : Crossing → Crossing) : (updCrossing c f s).tables = s.tables := rfl
@[simp] theorem updCrossing_model (c : Nat) (f : Crossing → Crossing) : (updCrossing c f s).model = s.model := rfl
@[simp] theorem updCrossing_lc (c : Nat) (f : Crossing → Crossing) : (updCrossing c f s).lc = s.lc := rfl
@[simp] theorem updCrossing_tc (c : Nat) (f : Crossing → Crossing) : (updCrossing c f s).tc = s.tc := rfl
@[simp] theorem updCrossing_vg (c : Nat) (f : Crossing → Crossing) : (updCrossing c f s).vg = s.vg := rfl
@[simp] theorem updCrossing_it (c : Nat) (f : Crossing → Crossing) : (updCrossing c f s).it = s.it := rfl
@[simp] theorem updCrossing_gs (c : Nat) (f : Crossing → Crossing) : (updCrossing c f s).gs = s.gs := rfl
@[simp] theorem updCrossing_cc (c : Nat) (f : Crossing → Crossing) : (updCrossing c f s).cc = { s.cc with crossings := Table.modify s.cc.crossings c f } := rfl
@[simp] theorem updCrossing_sc (c : Nat) (f : Crossing → Crossing) : (updCrossing c f s).sc = s.sc := rfl
@[simp] theorem updCrossing_pi (c : Nat) (f : Crossing → Crossing) : (updCrossing c f s).pi = s.pi := rfl
@[simp] theorem updCrossing_cm (c : Nat) (f : Crossing → Crossing) : (updCrossing c f s).cm = s.cm := rfl

/-! `updSiren` -/

@[simp] theorem updSiren_now (n : Nat) (f : Siren → Siren) : (updSiren n f s).now = s.now := rfl
@[simp] theorem updSiren_pending (n : Nat) (f : Siren → Siren) : (updSiren n f s).pending = s.pending := rfl
@[simp] theorem updSiren_lines (n : Nat) (f : Siren → Siren) : (updSiren n f s).lines = s.lines := rfl
@[simp] theorem updSiren_lp (n : Nat) (f : Siren → Siren) : (updSiren n f s).lp = s.lp := rfl
@[simp] theorem updSiren_tables (n : Nat) (f : Siren → Siren) : (updSiren n f s).tables = s.tables := rfl
@[simp] theorem updSiren_model (n : Nat) (f : Siren → Siren) : (updSiren n f s).model = s.model := rfl
@[simp] theorem updSiren_lc (n : Nat) (f : Siren → Siren) : (updSiren n f s).lc = s.lc := rfl
@[simp] theorem updSiren_tc (n : Nat) (f : Siren → Siren) : (updSiren n f s).tc = s.tc := rfl
@[simp] theorem updSiren_vg (n : Nat) (f : Siren → Siren) : (updSiren n f s).vg = s.vg := rfl
@[simp] theorem updSiren_it (n : Nat) (f : Siren → Siren) : (updSiren n f s).it = s.it := rfl
@[simp] theorem updSiren_gs (n : Nat) (f : Siren → Siren) : (updSiren n f s).gs = s.gs := rfl
@[simp] theorem updSiren_cc (n : Nat) (f : Siren → Siren) : (updSiren n f s).cc = s.cc := rfl
@[simp] theorem updSiren_sc (n : Nat) (f : Siren → Siren) : (updSiren n f s).sc = { s.sc with sirens := Table.modify s.sc.sirens n f } := rfl
@[simp] theorem updSiren_pi (n : Nat) (f : Siren → Siren) : (updSiren n f s).pi = s.pi := rfl
@[simp] theorem updSiren_cm (n : Nat) (f : Siren → Siren) : (updSiren n f s).cm = s.cm := rfl

/-! `updMonitor` -/

@[simp] theorem updMonitor_now (n : Nat) (f : Monitor → Monitor) : (updMonitor n f s).now = s.now := rfl
@[simp] theorem updMonitor_pending (n : Nat) (f : Monitor → Monitor) : (updMonitor n f s).pending = s.pending := rfl
@[simp] theorem updMonitor_lines (n : Nat) (f : Monitor → Monitor) : (updMonitor n f s).lines = s.lines := rfl
@[simp] theorem updMonitor_lp (n : Nat) (f : Monitor → Monitor) : (updMonitor n f s).lp = s.lp := rfl
@[simp] theorem updMonitor_tables (n : Nat) (f : Monitor → Monitor) : (updMonitor n f s).tables = s.tables := rfl
@[simp] theorem updMonitor_model (n : Nat) (f : Monitor → Monitor) : (updMonitor n f s).model = s.model := rfl
@[simp] theorem updMonitor_lc (n : Nat) (f : Monitor → Monitor) : (updMonitor n f s).lc = s.lc := rfl
@[simp] theorem updMonitor_tc (n : Nat) (f : Monitor → Monitor) : (updMonitor n f s).tc = s.tc := rfl
@[simp] theorem updMonitor_vg (n : Nat) (f : Monitor → Monitor) : (updMonitor n f s).vg = s.vg := rfl
@[simp] theorem updMonitor_it (n : Nat) (f : Monitor → Monitor) : (updMonitor n f s).it = s.it := rfl
@[simp] theorem updMonitor_gs (n : Nat) (f : Monitor → Monitor) : (updMonitor n f s).gs = s.gs := rfl
@[simp] theorem updMonitor_cc (n : Nat) (f : Monitor → Monitor) : (updMonitor n f s).cc = s.cc := rfl
@[simp] theorem updMonitor_sc (n : Nat) (f : Monitor → Monitor) : (updMonitor n f s).sc = s.sc := rfl
@[simp] theorem updMonitor_pi (n : Nat) (f : Monitor → Monitor) : (updMonitor n f s).pi = s.pi := rfl
@[simp] theorem updMonitor_cm (n : Nat) (f : Monitor → Monitor) : (updMonitor n f s).cm = Table.modify s.cm n f := rfl

/-! `postNotice`: every block but LP, and of LP's record all but the queue, the overrun flag and the number. -/

@[simp] theorem postNotice_now (c : NoticeClass) (b : NoticeBody) : (postNotice c b s).now = s.now := rfl
@[simp] theorem postNotice_pending (c : NoticeClass) (b : NoticeBody) : (postNotice c b s).pending = s.pending := rfl
@[simp] theorem postNotice_lines (c : NoticeClass) (b : NoticeBody) : (postNotice c b s).lines = s.lines := rfl
@[simp] theorem postNotice_tables (c : NoticeClass) (b : NoticeBody) : (postNotice c b s).tables = s.tables := rfl
@[simp] theorem postNotice_model (c : NoticeClass) (b : NoticeBody) : (postNotice c b s).model = s.model := rfl
@[simp] theorem postNotice_lc (c : NoticeClass) (b : NoticeBody) : (postNotice c b s).lc = s.lc := rfl
@[simp] theorem postNotice_tc (c : NoticeClass) (b : NoticeBody) : (postNotice c b s).tc = s.tc := rfl
@[simp] theorem postNotice_vg (c : NoticeClass) (b : NoticeBody) : (postNotice c b s).vg = s.vg := rfl
@[simp] theorem postNotice_it (c : NoticeClass) (b : NoticeBody) : (postNotice c b s).it = s.it := rfl
@[simp] theorem postNotice_gs (c : NoticeClass) (b : NoticeBody) : (postNotice c b s).gs = s.gs := rfl
@[simp] theorem postNotice_cc (c : NoticeClass) (b : NoticeBody) : (postNotice c b s).cc = s.cc := rfl
@[simp] theorem postNotice_sc (c : NoticeClass) (b : NoticeBody) : (postNotice c b s).sc = s.sc := rfl
@[simp] theorem postNotice_pi (c : NoticeClass) (b : NoticeBody) : (postNotice c b s).pi = s.pi := rfl
@[simp] theorem postNotice_cm (c : NoticeClass) (b : NoticeBody) : (postNotice c b s).cm = s.cm := rfl
@[simp] theorem postNotice_mode (c : NoticeClass) (b : NoticeBody) :
    (postNotice c b s).lp.mode = s.lp.mode := rfl
@[simp] theorem postNotice_linkTimeout (c : NoticeClass) (b : NoticeBody) :
    (postNotice c b s).lp.linkTimeout = s.lp.linkTimeout := rfl
@[simp] theorem postNotice_attnThreshold (c : NoticeClass) (b : NoticeBody) :
    (postNotice c b s).lp.attnThreshold = s.lp.attnThreshold := rfl
@[simp] theorem postNotice_errors (c : NoticeClass) (b : NoticeBody) :
    (postNotice c b s).lp.errors = s.lp.errors := rfl
@[simp] theorem postNotice_hostLost (c : NoticeClass) (b : NoticeBody) :
    (postNotice c b s).lp.hostLost = s.lp.hostLost := rfl
@[simp] theorem postNotice_hostLostExpiry (c : NoticeClass) (b : NoticeBody) :
    (postNotice c b s).lp.hostLostExpiry = s.lp.hostLostExpiry := rfl
@[simp] theorem postNotice_replies (c : NoticeClass) (b : NoticeBody) :
    (postNotice c b s).lp.replies = s.lp.replies := rfl
@[simp] theorem postNotice_receiver (c : NoticeClass) (b : NoticeBody) :
    (postNotice c b s).lp.receiver = s.lp.receiver := rfl
@[simp] theorem postNotice_nextSeq (c : NoticeClass) (b : NoticeBody) :
    (postNotice c b s).lp.nextSeq = s.lp.nextSeq + 1#16 := rfl
@[simp] theorem postNotice_notices (c : NoticeClass) (b : NoticeBody) : (postNotice c b s).lp.notices =
    (placeNotice { seq := s.lp.nextSeq, cls := c, time := s.now, body := b } s.lp.notices).1 := rfl

/-! `settleLines`: every block but the lines. -/

@[simp] theorem settleLines_now : (settleLines s).now = s.now := rfl
@[simp] theorem settleLines_pending : (settleLines s).pending = s.pending := rfl
@[simp] theorem settleLines_lp : (settleLines s).lp = s.lp := rfl
@[simp] theorem settleLines_tables : (settleLines s).tables = s.tables := rfl
@[simp] theorem settleLines_model : (settleLines s).model = s.model := rfl
@[simp] theorem settleLines_lc : (settleLines s).lc = s.lc := rfl
@[simp] theorem settleLines_tc : (settleLines s).tc = s.tc := rfl
@[simp] theorem settleLines_vg : (settleLines s).vg = s.vg := rfl
@[simp] theorem settleLines_it : (settleLines s).it = s.it := rfl
@[simp] theorem settleLines_gs : (settleLines s).gs = s.gs := rfl
@[simp] theorem settleLines_cc : (settleLines s).cc = s.cc := rfl
@[simp] theorem settleLines_sc : (settleLines s).sc = s.sc := rfl
@[simp] theorem settleLines_pi : (settleLines s).pi = s.pi := rfl
@[simp] theorem settleLines_cm : (settleLines s).cm = s.cm := rfl
@[simp] theorem settleLines_lines : (settleLines s).lines = judgeLines s := rfl

/-- The lines are judged on the other blocks alone. -/
@[simp] theorem judgeLines_settleLines : judgeLines (settleLines s) = judgeLines s := rfl

/-! `pushReply` -/

@[simp] theorem pushReply_now (r : Reply) : (pushReply r s).now = s.now := rfl
@[simp] theorem pushReply_pending (r : Reply) : (pushReply r s).pending = s.pending := rfl
@[simp] theorem pushReply_lines (r : Reply) : (pushReply r s).lines = s.lines := rfl
@[simp] theorem pushReply_tables (r : Reply) : (pushReply r s).tables = s.tables := rfl
@[simp] theorem pushReply_model (r : Reply) : (pushReply r s).model = s.model := rfl
@[simp] theorem pushReply_lc (r : Reply) : (pushReply r s).lc = s.lc := rfl
@[simp] theorem pushReply_tc (r : Reply) : (pushReply r s).tc = s.tc := rfl
@[simp] theorem pushReply_vg (r : Reply) : (pushReply r s).vg = s.vg := rfl
@[simp] theorem pushReply_it (r : Reply) : (pushReply r s).it = s.it := rfl
@[simp] theorem pushReply_gs (r : Reply) : (pushReply r s).gs = s.gs := rfl
@[simp] theorem pushReply_cc (r : Reply) : (pushReply r s).cc = s.cc := rfl
@[simp] theorem pushReply_sc (r : Reply) : (pushReply r s).sc = s.sc := rfl
@[simp] theorem pushReply_pi (r : Reply) : (pushReply r s).pi = s.pi := rfl
@[simp] theorem pushReply_cm (r : Reply) : (pushReply r s).cm = s.cm := rfl

/-! `setReceiver` -/

@[simp] theorem setReceiver_now (r : Receiver) : (setReceiver r s).now = s.now := rfl
@[simp] theorem setReceiver_pending (r : Receiver) : (setReceiver r s).pending = s.pending := rfl
@[simp] theorem setReceiver_lines (r : Receiver) : (setReceiver r s).lines = s.lines := rfl
@[simp] theorem setReceiver_tables (r : Receiver) : (setReceiver r s).tables = s.tables := rfl
@[simp] theorem setReceiver_model (r : Receiver) : (setReceiver r s).model = s.model := rfl
@[simp] theorem setReceiver_lc (r : Receiver) : (setReceiver r s).lc = s.lc := rfl
@[simp] theorem setReceiver_tc (r : Receiver) : (setReceiver r s).tc = s.tc := rfl
@[simp] theorem setReceiver_vg (r : Receiver) : (setReceiver r s).vg = s.vg := rfl
@[simp] theorem setReceiver_it (r : Receiver) : (setReceiver r s).it = s.it := rfl
@[simp] theorem setReceiver_gs (r : Receiver) : (setReceiver r s).gs = s.gs := rfl
@[simp] theorem setReceiver_cc (r : Receiver) : (setReceiver r s).cc = s.cc := rfl
@[simp] theorem setReceiver_sc (r : Receiver) : (setReceiver r s).sc = s.sc := rfl
@[simp] theorem setReceiver_pi (r : Receiver) : (setReceiver r s).pi = s.pi := rfl
@[simp] theorem setReceiver_cm (r : Receiver) : (setReceiver r s).cm = s.cm := rfl

/-! `countLinkError` -/

@[simp] theorem countLinkError_now : (countLinkError s).now = s.now := rfl
@[simp] theorem countLinkError_pending : (countLinkError s).pending = s.pending := rfl
@[simp] theorem countLinkError_lines : (countLinkError s).lines = s.lines := rfl
@[simp] theorem countLinkError_tables : (countLinkError s).tables = s.tables := rfl
@[simp] theorem countLinkError_model : (countLinkError s).model = s.model := rfl
@[simp] theorem countLinkError_lc : (countLinkError s).lc = s.lc := rfl
@[simp] theorem countLinkError_tc : (countLinkError s).tc = s.tc := rfl
@[simp] theorem countLinkError_vg : (countLinkError s).vg = s.vg := rfl
@[simp] theorem countLinkError_it : (countLinkError s).it = s.it := rfl
@[simp] theorem countLinkError_gs : (countLinkError s).gs = s.gs := rfl
@[simp] theorem countLinkError_cc : (countLinkError s).cc = s.cc := rfl
@[simp] theorem countLinkError_sc : (countLinkError s).sc = s.sc := rfl
@[simp] theorem countLinkError_pi : (countLinkError s).pi = s.pi := rfl
@[simp] theorem countLinkError_cm : (countLinkError s).cm = s.cm := rfl

/-! `dropFrame` -/

@[simp] theorem dropFrame_now : (dropFrame s).now = s.now := rfl
@[simp] theorem dropFrame_pending : (dropFrame s).pending = s.pending := rfl
@[simp] theorem dropFrame_lines : (dropFrame s).lines = s.lines := rfl
@[simp] theorem dropFrame_tables : (dropFrame s).tables = s.tables := rfl
@[simp] theorem dropFrame_model : (dropFrame s).model = s.model := rfl
@[simp] theorem dropFrame_lc : (dropFrame s).lc = s.lc := rfl
@[simp] theorem dropFrame_tc : (dropFrame s).tc = s.tc := rfl
@[simp] theorem dropFrame_vg : (dropFrame s).vg = s.vg := rfl
@[simp] theorem dropFrame_it : (dropFrame s).it = s.it := rfl
@[simp] theorem dropFrame_gs : (dropFrame s).gs = s.gs := rfl
@[simp] theorem dropFrame_cc : (dropFrame s).cc = s.cc := rfl
@[simp] theorem dropFrame_sc : (dropFrame s).sc = s.sc := rfl
@[simp] theorem dropFrame_pi : (dropFrame s).pi = s.pi := rfl
@[simp] theorem dropFrame_cm : (dropFrame s).cm = s.cm := rfl

/-! `countLoopError` -/

@[simp] theorem countLoopError_now : (countLoopError s).now = s.now := rfl
@[simp] theorem countLoopError_pending : (countLoopError s).pending = s.pending := rfl
@[simp] theorem countLoopError_lines : (countLoopError s).lines = s.lines := rfl
@[simp] theorem countLoopError_lp : (countLoopError s).lp = s.lp := rfl
@[simp] theorem countLoopError_tables : (countLoopError s).tables = s.tables := rfl
@[simp] theorem countLoopError_model : (countLoopError s).model = s.model := rfl
@[simp] theorem countLoopError_tc : (countLoopError s).tc = s.tc := rfl
@[simp] theorem countLoopError_vg : (countLoopError s).vg = s.vg := rfl
@[simp] theorem countLoopError_it : (countLoopError s).it = s.it := rfl
@[simp] theorem countLoopError_gs : (countLoopError s).gs = s.gs := rfl
@[simp] theorem countLoopError_cc : (countLoopError s).cc = s.cc := rfl
@[simp] theorem countLoopError_sc : (countLoopError s).sc = s.sc := rfl
@[simp] theorem countLoopError_pi : (countLoopError s).pi = s.pi := rfl
@[simp] theorem countLoopError_cm : (countLoopError s).cm = s.cm := rfl

/-! `countForeign` -/

@[simp] theorem countForeign_now : (countForeign s).now = s.now := rfl
@[simp] theorem countForeign_pending : (countForeign s).pending = s.pending := rfl
@[simp] theorem countForeign_lines : (countForeign s).lines = s.lines := rfl
@[simp] theorem countForeign_lp : (countForeign s).lp = s.lp := rfl
@[simp] theorem countForeign_tables : (countForeign s).tables = s.tables := rfl
@[simp] theorem countForeign_model : (countForeign s).model = s.model := rfl
@[simp] theorem countForeign_tc : (countForeign s).tc = s.tc := rfl
@[simp] theorem countForeign_vg : (countForeign s).vg = s.vg := rfl
@[simp] theorem countForeign_it : (countForeign s).it = s.it := rfl
@[simp] theorem countForeign_gs : (countForeign s).gs = s.gs := rfl
@[simp] theorem countForeign_cc : (countForeign s).cc = s.cc := rfl
@[simp] theorem countForeign_sc : (countForeign s).sc = s.sc := rfl
@[simp] theorem countForeign_pi : (countForeign s).pi = s.pi := rfl
@[simp] theorem countForeign_cm : (countForeign s).cm = s.cm := rfl

/-! `emptySlot` -/

@[simp] theorem emptySlot_now : (emptySlot s).now = s.now := rfl
@[simp] theorem emptySlot_pending : (emptySlot s).pending = s.pending := rfl
@[simp] theorem emptySlot_lines : (emptySlot s).lines = s.lines := rfl
@[simp] theorem emptySlot_lp : (emptySlot s).lp = s.lp := rfl
@[simp] theorem emptySlot_tables : (emptySlot s).tables = s.tables := rfl
@[simp] theorem emptySlot_model : (emptySlot s).model = s.model := rfl
@[simp] theorem emptySlot_tc : (emptySlot s).tc = s.tc := rfl
@[simp] theorem emptySlot_vg : (emptySlot s).vg = s.vg := rfl
@[simp] theorem emptySlot_it : (emptySlot s).it = s.it := rfl
@[simp] theorem emptySlot_gs : (emptySlot s).gs = s.gs := rfl
@[simp] theorem emptySlot_cc : (emptySlot s).cc = s.cc := rfl
@[simp] theorem emptySlot_sc : (emptySlot s).sc = s.sc := rfl
@[simp] theorem emptySlot_pi : (emptySlot s).pi = s.pi := rfl
@[simp] theorem emptySlot_cm : (emptySlot s).cm = s.cm := rfl

/-! `dropAutoRead` -/

@[simp] theorem dropAutoRead_now (a : Nat) : (dropAutoRead a s).now = s.now := rfl
@[simp] theorem dropAutoRead_pending (a : Nat) : (dropAutoRead a s).pending = s.pending := rfl
@[simp] theorem dropAutoRead_lines (a : Nat) : (dropAutoRead a s).lines = s.lines := rfl
@[simp] theorem dropAutoRead_lp (a : Nat) : (dropAutoRead a s).lp = s.lp := rfl
@[simp] theorem dropAutoRead_tables (a : Nat) : (dropAutoRead a s).tables = s.tables := rfl
@[simp] theorem dropAutoRead_model (a : Nat) : (dropAutoRead a s).model = s.model := rfl
@[simp] theorem dropAutoRead_tc (a : Nat) : (dropAutoRead a s).tc = s.tc := rfl
@[simp] theorem dropAutoRead_vg (a : Nat) : (dropAutoRead a s).vg = s.vg := rfl
@[simp] theorem dropAutoRead_it (a : Nat) : (dropAutoRead a s).it = s.it := rfl
@[simp] theorem dropAutoRead_gs (a : Nat) : (dropAutoRead a s).gs = s.gs := rfl
@[simp] theorem dropAutoRead_cc (a : Nat) : (dropAutoRead a s).cc = s.cc := rfl
@[simp] theorem dropAutoRead_sc (a : Nat) : (dropAutoRead a s).sc = s.sc := rfl
@[simp] theorem dropAutoRead_pi (a : Nat) : (dropAutoRead a s).pi = s.pi := rfl
@[simp] theorem dropAutoRead_cm (a : Nat) : (dropAutoRead a s).cm = s.cm := rfl

/-! `closeSlot` -/

@[simp] theorem closeSlot_now (a : Nat) : (closeSlot a s).now = s.now := rfl
@[simp] theorem closeSlot_pending (a : Nat) : (closeSlot a s).pending = s.pending := rfl
@[simp] theorem closeSlot_lines (a : Nat) : (closeSlot a s).lines = s.lines := rfl
@[simp] theorem closeSlot_lp (a : Nat) : (closeSlot a s).lp = s.lp := rfl
@[simp] theorem closeSlot_tables (a : Nat) : (closeSlot a s).tables = s.tables := rfl
@[simp] theorem closeSlot_model (a : Nat) : (closeSlot a s).model = s.model := rfl
@[simp] theorem closeSlot_tc (a : Nat) : (closeSlot a s).tc = s.tc := rfl
@[simp] theorem closeSlot_vg (a : Nat) : (closeSlot a s).vg = s.vg := rfl
@[simp] theorem closeSlot_it (a : Nat) : (closeSlot a s).it = s.it := rfl
@[simp] theorem closeSlot_gs (a : Nat) : (closeSlot a s).gs = s.gs := rfl
@[simp] theorem closeSlot_cc (a : Nat) : (closeSlot a s).cc = s.cc := rfl
@[simp] theorem closeSlot_sc (a : Nat) : (closeSlot a s).sc = s.sc := rfl
@[simp] theorem closeSlot_pi (a : Nat) : (closeSlot a s).pi = s.pi := rfl
@[simp] theorem closeSlot_cm (a : Nat) : (closeSlot a s).cm = s.cm := rfl


end Sys2Proof.Machine
end

