-- ==== Sys2Proof/Laws/Tables.lean ====
section
/-! SUPPORT. What each table operation does to what each index reads, and the canonical form it keeps. -/

namespace Sys2Proof.Machine

variable {α : Type}

@[simp] theorem Table.get_put_same (t : Table α) (k : Nat) (v : α) : Table.get (Table.put t k v) k = some v := by
  induction t with
  | nil => simp [Table.put, Table.get]
  | cons p r ih =>
    obtain ⟨j, w⟩ := p
    simp only [Table.put]
    split
    · simp [Table.get]
    · split
      · simp [Table.get]
      · rename_i h1 h2
        simp [Table.get, Ne.symm h2, ih]

theorem Table.get_put_other (t : Table α) {k n : Nat} (v : α) (h : n ≠ k) :
    Table.get (Table.put t k v) n = Table.get t n := by
  induction t with
  | nil => simp [Table.put, Table.get, Ne.symm h]
  | cons p r ih =>
    obtain ⟨j, w⟩ := p
    simp only [Table.put]
    split
    · simp [Table.get, Ne.symm h]
    · split
      · rename_i h1 h2; subst h2; simp [Table.get, Ne.symm h]
      · simp [Table.get, ih]

@[simp] theorem Table.get_drop_same (t : Table α) (k : Nat) : Table.get (Table.drop t k) k = none := by
  induction t with
  | nil => rfl
  | cons p r ih =>
    obtain ⟨j, w⟩ := p
    by_cases h : j = k
    · simpa [Table.drop, h] using ih
    · simpa [Table.drop, h, Table.get] using ih

theorem Table.get_drop_other (t : Table α) {k n : Nat} (h : n ≠ k) : Table.get (Table.drop t k) n = Table.get t n := by
  induction t with
  | nil => rfl
  | cons p r ih =>
    obtain ⟨j, w⟩ := p
    by_cases hj : j = k
    · subst hj; simpa [Table.drop, Table.get, Ne.symm h] using ih
    · by_cases hn : j = n
      · subst hn; simp [Table.drop, h, Table.get]
      · simpa [Table.drop, hj, hn, Table.get] using ih

@[simp] theorem Table.get_modify_same (t : Table α) (k : Nat) (f : α → α) :
    Table.get (Table.modify t k f) k = (Table.get t k).map f := by
  induction t with
  | nil => rfl
  | cons p r ih =>
    obtain ⟨j, w⟩ := p
    by_cases h : j = k
    · simp [Table.modify, Table.get, h]
    · simpa [Table.modify, Table.get, h] using ih

theorem Table.get_modify_other (t : Table α) {k n : Nat} (f : α → α) (h : n ≠ k) :
    Table.get (Table.modify t k f) n = Table.get t n := by
  induction t with
  | nil => rfl
  | cons p r ih =>
    obtain ⟨j, w⟩ := p
    by_cases hj : j = k
    · subst hj; simpa [Table.modify, Table.get, Ne.symm h] using ih
    · by_cases hn : j = n
      · subst hn; simp [Table.modify, h, Table.get]
      · simpa [Table.modify, hj, hn, Table.get] using ih

/-- A changed table lists the indices it listed. -/
@[simp] theorem Table.modify_keys (t : Table α) (k : Nat) (f : α → α) :
    (Table.modify t k f).map (fun p => p.1) = t.map fun p => p.1 := by
  induction t with
  | nil => rfl
  | cons p r ih =>
    simp only [Table.modify, List.map_cons] at *
    rw [ih]; split <;> rfl

/-- Every entry of a changed table is an entry of the table, changed or not. -/
theorem Table.mem_modify {t : Table α} {k : Nat} {f : α → α} {e : Nat × α} (h : e ∈ Table.modify t k f) :
    ∃ x ∈ t, e = x ∨ e = (x.1, f x.2) := by
  simp only [Table.modify, List.mem_map] at h
  obtain ⟨x, hx, rfl⟩ := h
  refine ⟨x, hx, ?_⟩
  split
  · exact .inr rfl
  · exact .inl rfl

/-- A property of every record of a table holds of a changed table, if the change keeps it. -/
theorem Table.modify_all {t : Table α} {k : Nat} {f : α → α} {p : α → Prop} (h : ∀ e ∈ t, p e.2)
    (hf : ∀ x, p x → p (f x)) : ∀ e ∈ Table.modify t k f, p e.2 := by
  intro e he
  obtain ⟨x, hx, rfl | rfl⟩ := Table.mem_modify he
  · exact h _ hx
  · exact hf _ (h _ hx)

theorem Table.mem_put {t : Table α} {k : Nat} {v : α} {e : Nat × α} (h : e ∈ Table.put t k v) : e = (k, v) ∨ e ∈ t := by
  induction t with
  | nil => simpa [Table.put] using h
  | cons p r ih =>
    obtain ⟨j, w⟩ := p
    simp only [Table.put] at h
    split at h
    · simpa using h
    · split at h
      · rcases List.mem_cons.1 h with rfl | h
        · exact .inl rfl
        · exact .inr (List.mem_cons_of_mem _ h)
      · rcases List.mem_cons.1 h with rfl | h
        · exact .inr (List.mem_cons_self ..)
        · rcases ih h with h | h
          · exact .inl h
          · exact .inr (List.mem_cons_of_mem _ h)

/-- Making an entry present keeps the canonical form. -/
theorem Table.put_wf (t : Table α) (k : Nat) (v : α) (h : Table.wf t = true) : Table.wf (Table.put t k v) = true := by
  induction t with
  | nil => rfl
  | cons p r ih =>
    obtain ⟨j, w⟩ := p
    simp only [Table.wf, Bool.and_eq_true, List.all_eq_true, decide_eq_true_eq] at h
    simp only [Table.put]
    split
    · rename_i hk
      simp only [Table.wf, Bool.and_eq_true, List.all_eq_true, decide_eq_true_eq]
      refine ⟨fun x hx => ?_, h⟩
      rcases List.mem_cons.1 hx with rfl | hx
      · exact hk
      · have := h.1 x hx; omega
    · split
      · rename_i hk; subst hk
        simpa [Table.wf] using h
      · rename_i h1 h2
        simp only [Table.wf, Bool.and_eq_true, List.all_eq_true, decide_eq_true_eq]
        refine ⟨fun x hx => ?_, ih h.2⟩
        rcases Table.mem_put hx with rfl | hx
        · show j < k; omega
        · exact h.1 x hx

/-- Making an entry absent keeps the canonical form. -/
theorem Table.drop_wf (t : Table α) (k : Nat) (h : Table.wf t = true) : Table.wf (Table.drop t k) = true := by
  induction t with
  | nil => rfl
  | cons p r ih =>
    obtain ⟨j, w⟩ := p
    simp only [Table.wf, Bool.and_eq_true, List.all_eq_true, decide_eq_true_eq] at h
    have hr := ih h.2
    by_cases hj : j = k
    · simpa [Table.drop, hj] using hr
    · simp only [Table.drop, ne_eq, decide_not] at hr ⊢
      rw [List.filter_cons_of_pos (by simpa using hj)]
      simp only [Table.wf, Bool.and_eq_true, List.all_eq_true, decide_eq_true_eq]
      exact ⟨fun x hx => h.1 x (List.mem_filter.1 hx).1, hr⟩

/-- Changing an entry keeps the canonical form. -/
theorem Table.modify_wf (t : Table α) (k : Nat) (f : α → α) (h : Table.wf t = true) :
    Table.wf (Table.modify t k f) = true := by
  induction t with
  | nil => rfl
  | cons p r ih =>
    simp only [Table.wf, Bool.and_eq_true, List.all_eq_true, decide_eq_true_eq] at h
    simp only [Table.modify, List.map_cons] at ih ⊢
    have hk : (if p.1 = k then (p.1, f p.2) else p).1 = p.1 := by split <;> rfl
    generalize (if p.1 = k then (p.1, f p.2) else p) = q at hk ⊢
    obtain ⟨j, w⟩ := q
    simp only at hk
    subst hk
    simp only [Table.wf, Bool.and_eq_true, List.all_eq_true, decide_eq_true_eq]
    refine ⟨fun x hx => ?_, ih h.2⟩
    obtain ⟨y, hy, rfl⟩ := List.mem_map.1 hx
    have := h.1 y hy
    split <;> exact this

end Sys2Proof.Machine
end

