-- ==== Sys2Proof/Laws/Reacts.lean ====
section
/-! SUPPORT. What the shared operations do, said once: each is a reaction that touches the blocks named, LP only by its
notices, and keeps every limit. Later proofs cite these and unfold nothing. -/

namespace Sys2Proof.Machine

-- One lemma at a time: each waits for the equations of the definitions it unfolds, and each would hold a thread.
set_option Elab.async false

variable {ch ch' : List Block} {s t u : State}

/-! ## The relation -/

theorem Frame.refl (ch : List Block) (s : State) : Frame ch s s :=
  ⟨rfl, rfl, fun _ => rfl, fun _ => rfl, fun _ => rfl, fun _ => rfl, fun _ => rfl, fun _ => rfl, fun _ => rfl,
    fun _ => rfl, fun _ => rfl, fun _ => rfl, fun _ => rfl, fun _ => rfl⟩

theorem Frame.trans (h : Frame ch s t) (k : Frame ch t u) : Frame ch s u :=
  ⟨k.now.trans h.now, k.pending.trans h.pending, fun n => (k.lp n).trans (h.lp n),
    fun n => (k.tables n).trans (h.tables n), fun n => (k.model n).trans (h.model n), fun n => (k.lc n).trans (h.lc n),
    fun n => (k.tc n).trans (h.tc n), fun n => (k.vg n).trans (h.vg n), fun n => (k.it n).trans (h.it n),
    fun n => (k.gs n).trans (h.gs n), fun n => (k.cc n).trans (h.cc n), fun n => (k.sc n).trans (h.sc n),
    fun n => (k.pi n).trans (h.pi n), fun n => (k.cm n).trans (h.cm n)⟩

/-- A frame that names fewer blocks is one that names more. -/
theorem Frame.mono (h : Frame ch s t) (hs : ch ⊆ ch') : Frame ch' s t :=
  ⟨h.now, h.pending, fun n => h.lp fun m => n (hs m), fun n => h.tables fun m => n (hs m),
    fun n => h.model fun m => n (hs m), fun n => h.lc fun m => n (hs m), fun n => h.tc fun m => n (hs m),
    fun n => h.vg fun m => n (hs m), fun n => h.it fun m => n (hs m), fun n => h.gs fun m => n (hs m),
    fun n => h.cc fun m => n (hs m), fun n => h.sc fun m => n (hs m), fun n => h.pi fun m => n (hs m),
    fun n => h.cm fun m => n (hs m)⟩

theorem Reports.refl (s : State) : Reports s s := ⟨rfl, rfl, rfl, rfl, rfl, rfl, rfl, rfl⟩

theorem Reports.trans (h : Reports s t) (k : Reports t u) : Reports s u :=
  ⟨k.mode.trans h.mode, k.linkTimeout.trans h.linkTimeout, k.attnThreshold.trans h.attnThreshold,
    k.errors.trans h.errors, k.hostLost.trans h.hostLost, k.hostLostExpiry.trans h.hostLostExpiry,
    k.replies.trans h.replies, k.receiver.trans h.receiver⟩

/-- LP's record is untouched, so it differs by no report. -/
theorem Reports.of_lp (h : t.lp = s.lp) : Reports s t := by
  constructor <;> rw [h]

theorem Reacts.refl (ch : List Block) (s : State) : Reacts ch s s := ⟨Frame.refl ch s, Reports.refl s, id⟩

theorem Reacts.trans (h : Reacts ch s t) (k : Reacts ch t u) : Reacts ch s u :=
  ⟨h.frame.trans k.frame, h.reports.trans k.reports, k.bounds ∘ h.bounds⟩

theorem Reacts.mono (h : Reacts ch s t) (hs : ch ⊆ ch') : Reacts ch' s t := ⟨h.frame.mono hs, h.reports, h.bounds⟩

/-- A reaction seen as one that may touch more. -/
theorem Reacts.of (h : Reacts ch' s t) (hs : ch' ⊆ ch := by simp) : Reacts ch s t := h.mono hs

/-- A reaction followed by one that touches some of the same blocks. -/
theorem Reacts.then (h : Reacts ch s t) (k : Reacts ch' t u) (hs : ch' ⊆ ch := by simp) : Reacts ch s u :=
  h.trans (k.mono hs)

/-- A condition chooses between two reactions. -/
theorem Reacts.ite {p : Prop} [Decidable p] (h : p → Reacts ch s t) (k : ¬p → Reacts ch s u) :
    Reacts ch s (if p then t else u) := by
  split
  · exact h ‹_›
  · exact k ‹_›

/-- Reactions taken in turn over a list are one reaction. -/
theorem Reacts.foldl {α : Type} {f : State → α → State} (hf : ∀ t x, Reacts ch t (f t x)) (l : List α) (s : State) :
    Reacts ch s (l.foldl f s) := by
  induction l generalizing s with
  | nil => exact Reacts.refl ch s
  | cons x r ih => exact (hf s x).trans (ih _)

/-! ## Updates of one block -/

/-- The limits read LP, IT and VG only. -/
theorem Bounds.of_blocks (h : Bounds s) (lp : t.lp = s.lp) (it : t.it = s.it) (vg : t.vg = s.vg) : Bounds t := by
  constructor
  · rw [lp]; exact h.notices
  · rw [lp]; exact h.replies
  · rw [it]; exact h.incidents
  · rw [it]; exact h.ids
  · rw [it]; exact h.merged
  · rw [it]; exact h.actions
  · rw [it]; exact h.rings
  · rw [vg]; exact h.windows

theorem lc_reacts (s : State) (x : LoopController) : Reacts [.lc] s { s with lc := x } :=
  ⟨by constructor <;> intros <;> first | rfl | simp_all, Reports.of_lp rfl, fun h => h.of_blocks rfl rfl rfl⟩

theorem tc_reacts (s : State) (x : Table Velocity) : Reacts [.tc] s { s with tc := x } :=
  ⟨by constructor <;> intros <;> first | rfl | simp_all, Reports.of_lp rfl, fun h => h.of_blocks rfl rfl rfl⟩

theorem gs_reacts (s : State) (x : Table Group) : Reacts [.gs] s { s with gs := x } :=
  ⟨by constructor <;> intros <;> first | rfl | simp_all, Reports.of_lp rfl, fun h => h.of_blocks rfl rfl rfl⟩

theorem cc_reacts (s : State) (x : Compartments) : Reacts [.cc] s { s with cc := x } :=
  ⟨by constructor <;> intros <;> first | rfl | simp_all, Reports.of_lp rfl, fun h => h.of_blocks rfl rfl rfl⟩

theorem sc_reacts (s : State) (x : SirenController) : Reacts [.sc] s { s with sc := x } :=
  ⟨by constructor <;> intros <;> first | rfl | simp_all, Reports.of_lp rfl, fun h => h.of_blocks rfl rfl rfl⟩

theorem pi_reacts (s : State) (x : PointInterface) : Reacts [.pi] s { s with pi := x } :=
  ⟨by constructor <;> intros <;> first | rfl | simp_all, Reports.of_lp rfl, fun h => h.of_blocks rfl rfl rfl⟩

theorem cm_reacts (s : State) (x : Table Monitor) : Reacts [.cm] s { s with cm := x } :=
  ⟨by constructor <;> intros <;> first | rfl | simp_all, Reports.of_lp rfl, fun h => h.of_blocks rfl rfl rfl⟩

theorem vg_reacts (s : State) (x : ValveGate)
    (hx : (∀ e ∈ s.vg.valves, e.2.queue.length ≤ 8) → ∀ e ∈ x.valves, e.2.queue.length ≤ 8) :
    Reacts [.vg] s { s with vg := x } :=
  ⟨by constructor <;> intros <;> first | rfl | simp_all, Reports.of_lp rfl,
    fun h => ⟨h.notices, h.replies, h.incidents, h.ids, h.merged, h.actions, h.rings, hx h.windows⟩⟩

/-- The limits of the incident table. -/
structure ItBounds (x : IncidentTable) : Prop where
  incidents : x.incidents.length ≤ 16
  ids : (x.incidents.map fun i => i.id).Nodup
  merged : ∀ i ∈ x.incidents, i.merged.length ≤ 3
  actions : ∀ i ∈ x.incidents, i.actions.length ≤ 24
  rings : ∀ e ∈ x.sparks, e.2.ring.length ≤ 16

theorem Bounds.it (h : Bounds s) : ItBounds s.it := ⟨h.incidents, h.ids, h.merged, h.actions, h.rings⟩

theorem it_reacts (s : State) (x : IncidentTable) (hx : ItBounds s.it → ItBounds x) :
    Reacts [.it] s { s with it := x } :=
  ⟨by constructor <;> intros <;> first | rfl | simp_all, Reports.of_lp rfl,
    fun h => let b := hx h.it; ⟨h.notices, h.replies, b.incidents, b.ids, b.merged, b.actions, b.rings, h.windows⟩⟩

theorem updDevice_reacts (a : Nat) (f : Device → Device) (s : State) : Reacts [.lc] s (updDevice a f s) := lc_reacts s _
theorem updWalk_reacts (d : Nat) (f : Walk → Walk) (s : State) : Reacts [.lc] s (updWalk d f s) := lc_reacts s _
theorem updVelocity_reacts (d : Nat) (f : Velocity → Velocity) (s : State) : Reacts [.tc] s (updVelocity d f s) :=
  tc_reacts s _
theorem updGroup_reacts (g : Nat) (f : Group → Group) (s : State) : Reacts [.gs] s (updGroup g f s) := gs_reacts s _
theorem updWall_reacts (w : Nat) (f : Wall → Wall) (s : State) : Reacts [.cc] s (updWall w f s) := cc_reacts s _
theorem updCrossing_reacts (c : Nat) (f : Crossing → Crossing) (s : State) : Reacts [.cc] s (updCrossing c f s) :=
  cc_reacts s _
theorem updSiren_reacts (n : Nat) (f : Siren → Siren) (s : State) : Reacts [.sc] s (updSiren n f s) := sc_reacts s _
theorem updMonitor_reacts (n : Nat) (f : Monitor → Monitor) (s : State) : Reacts [.cm] s (updMonitor n f s) :=
  cm_reacts s _
theorem updGate_reacts (d : Nat) (f : Gate → Gate) (s : State) : Reacts [.vg] s (updGate d f s) := vg_reacts s _ id

/-- A change of a valve's record that lets its queue grow past no limit. -/
theorem updValve_reacts (d : Nat) (f : Valve → Valve) (s : State)
    (hf : ∀ v, v.queue.length ≤ 8 → (f v).queue.length ≤ 8) : Reacts [.vg] s (updValve d f s) :=
  vg_reacts s _ fun h => Table.modify_all (p := fun v : Valve => v.queue.length ≤ 8) h hf

theorem updSparks_reacts (d : Nat) (f : DuctSparks → DuctSparks) (s : State)
    (hf : ∀ r, r.ring.length ≤ 16 → (f r).ring.length ≤ 16) : Reacts [.it] s (updSparks d f s) :=
  it_reacts s _ fun h => ⟨h.incidents, h.ids, h.merged, h.actions,
    Table.modify_all (p := fun r : DuctSparks => r.ring.length ≤ 16) h.rings hf⟩

/-- The incidents changed one by one, none growing past its limits. -/
theorem mapIncidents_bounds {x : IncidentTable} (f : Incident → Incident) (hi : ∀ i, (f i).id = i.id)
    (hm : ∀ i, i.merged.length ≤ 3 → (f i).merged.length ≤ 3)
    (ha : ∀ i, i.actions.length ≤ 24 → (f i).actions.length ≤ 24) (h : ItBounds x) :
    ItBounds { x with incidents := x.incidents.map f } where
  incidents := by simpa using h.incidents
  ids := by
    have : (x.incidents.map f).map (fun i => i.id) = x.incidents.map fun i => i.id := by simp [hi]
    exact this ▸ h.ids
  merged := by
    intro i hi
    obtain ⟨j, hj, rfl⟩ := List.mem_map.1 hi
    exact hm j (h.merged j hj)
  actions := by
    intro i hi
    obtain ⟨j, hj, rfl⟩ := List.mem_map.1 hi
    exact ha j (h.actions j hj)
  rings := h.rings

theorem updIncident_reacts (n : Nat) (f : Incident → Incident) (s : State)
    (hm : ∀ i, i.merged.length ≤ 3 → (f i).merged.length ≤ 3)
    (ha : ∀ i, i.actions.length ≤ 24 → (f i).actions.length ≤ 24) (hid : ∀ i, (f i).id = i.id := by intros; rfl) :
    Reacts [.it] s (updIncident n f s) :=
  it_reacts s _ fun h => by
    refine mapIncidents_bounds _ (fun i => ?_) (fun i hi => ?_) (fun i hi => ?_) h
    · split
      · exact hid i
      · rfl
    · split
      · exact hm i hi
      · exact hi
    · split
      · exact ha i hi
      · exact hi

/-! ## Notices (11 R177) -/

theorem dropOldest_length {c : NoticeClass} {q : List Notice} (h : q.any (fun n => n.cls == c) = true) :
    (dropOldest c q).length + 1 = q.length := by
  induction q with
  | nil => simp at h
  | cons n r ih =>
    simp only [dropOldest]
    split
    · simp
    · rename_i hn
      have : r.any (fun n => n.cls == c) = true := by simpa [hn] using h
      simp [ih this]

/-- The displaced class is present in the queue. -/
theorem displaced_present {c d : NoticeClass} {q : List Notice} (h : displaced c q = some d) :
    q.any (fun n => n.cls == d) = true := by
  unfold displaced at h
  split at h <;> (repeat' split at h) <;> simp_all

/-- The notice queue holds at most 64 notices. -/
theorem placeNotice_length (n : Notice) {q : List Notice} (h : q.length ≤ 64) : (placeNotice n q).1.length ≤ 64 := by
  unfold placeNotice Config.noticeLimit
  split
  · simp; omega
  · split
    · rename_i c hc
      have := dropOldest_length (displaced_present hc)
      simp; omega
    · exact h

theorem postNotice_reacts (c : NoticeClass) (b : NoticeBody) (s : State) : Reacts [.lp] s (postNotice c b s) :=
  ⟨by constructor <;> intros <;> first | rfl | simp_all, ⟨rfl, rfl, rfl, rfl, rfl, rfl, rfl, rfl⟩,
    fun h => ⟨placeNotice_length _ h.notices, h.replies, h.incidents, h.ids, h.merged, h.actions, h.rings, h.windows⟩⟩

/-! ## Output points (09 R150, R156) -/

theorem restartFilter_reacts (m : Nat) (s : State) : Reacts [.cm] s (restartFilter m s) := by
  unfold restartFilter
  split
  · exact Reacts.refl ..
  · exact cm_reacts s _

theorem writeOut_reacts (p : Nat) (v : Bool) (s : State) : Reacts [.pi, .cm] s (writeOut p v s) := by
  unfold writeOut
  split
  · exact Reacts.refl ..
  · have h := (pi_reacts s { s.pi with out := setLevel s.pi.out p v }).mono (ch' := [.pi, .cm]) (by simp)
    simp only
    split
    · exact h
    · exact h.trans ((restartFilter_reacts _ _).mono (by simp))

theorem writeOuts_reacts (ps : List Nat) (v : Bool) (s : State) : Reacts [.pi, .cm] s (writeOuts ps v s) :=
  Reacts.foldl (fun t p => writeOut_reacts p v t) ps s

end Sys2Proof.Machine
end

