-- ==== Sys2Proof/Laws/Windows.lean ====
section
/-! SUPPORT. The length of a window queue (04 R54, R57, R58). -/

namespace Sys2Proof.Machine

@[simp] theorem insertWindow_length (w : Window) (q : List Window) : (insertWindow w q).length = q.length + 1 := by
  induction q with
  | nil => rfl
  | cons x r ih =>
    simp only [insertWindow]
    split <;> simp [ih]

/-- A round of joining takes no window into the queue. -/
theorem absorb_length (m n : Nat) (w : Window) (q : List Window) : (absorb m n w q).2.length ≤ q.length := by
  induction n generalizing w q with
  | zero => exact Nat.le_refl _
  | succ n ih =>
    simp only [absorb]
    split
    · exact Nat.le_trans (ih ..) (List.length_filter_le ..)
    · exact Nat.le_refl _

/-- Joining a window that qualifies takes at least one window out of the queue. -/
theorem absorb_length_lt (m : Nat) (w : Window) (q : List Window) (h : q.any (qualifies m w) = true) :
    (absorb m q.length w q).2.length < q.length := by
  cases q with
  | nil => simp at h
  | cons x r =>
    simp only [List.length_cons, absorb, h, if_true]
    refine Nat.lt_of_le_of_lt (absorb_length ..) ?_
    have : ((x :: r).filter fun y => !qualifies m w y).length < (x :: r).length := by
      rw [List.length_filter_lt_length_iff_exists]
      simpa using h
    simpa using this

theorem neighbour_lt (w : Window) {q : List Window} (h : q ≠ []) : neighbour w q < q.length := by
  have := List.length_filter_le (fun x => before x.openAt w.openAt) q
  have : 0 < q.length := List.length_pos_iff.2 h
  unfold neighbour
  omega

/-- A valve's queue holds at most eight windows. -/
theorem mergeWindow_length (m : Nat) (w : Window) {q : List Window} (h : q.length ≤ 8) :
    (mergeWindow m w q).length ≤ 8 := by
  unfold mergeWindow Config.windowLimit
  split
  · rename_i hc
    rw [insertWindow_length]
    simp only [Bool.or_eq_true, decide_eq_true_eq] at hc
    rcases hc with hc | hc
    · have := absorb_length_lt m w q hc; omega
    · have := absorb_length m q.length w q; omega
  · rename_i hc
    simp only [Bool.or_eq_true, decide_eq_true_eq, not_or] at hc
    have hq : q ≠ [] := by rintro rfl; simp at hc
    have hk := neighbour_lt w hq
    rw [insertWindow_length]
    have := absorb_length m q.length (unionWindow (q.getD (neighbour w q) w) w) (q.eraseIdx (neighbour w q))
    have := List.length_eraseIdx_of_lt hk
    omega

end Sys2Proof.Machine
end

