-- ==== Sys2Proof/Laws/ReactsPlant.lean ====
section
/-! SUPPORT. The reactions of VG, GS, CC and SC: the blocks each touches, and that each keeps every limit. -/

namespace Sys2Proof.Machine

-- One lemma at a time: each waits for the equations of the definitions it unfolds, and each would hold a thread.
set_option Elab.async false

/-! ## VG (Chapter 4) -/

theorem driveValve_reacts (d : Nat) (on : Bool) (s : State) : Reacts [.pi, .cm] s (driveValve d on s) := by
  unfold driveValve
  split
  · exact Reacts.refl ..
  · exact writeOut_reacts ..

theorem pressureArrives_reacts (d : Nat) (s : State) : Reacts [.lp, .vg] s (pressureArrives d s) := by
  unfold pressureArrives
  split
  · exact Reacts.refl ..
  · rename_i v _
    have h := (updValve_reacts d (fun v => { v with
      settleExpiry := none, state := .flowing, flowed := true, failed := false }) s (fun _ h => h)).of (ch := [.lp, .vg])
    exact Reacts.ite (fun _ => h.then (postNotice_reacts ..)) (fun _ => h)

theorem openHead_reacts (d : Nat) (s : State) : Reacts [.lp, .vg, .pi, .cm] s (openHead d s) := by
  unfold openHead
  split
  · rename_i v e _ _
    have h1 : Reacts [.lp, .vg, .pi, .cm] s _ := (updValve_reacts d (fun v => { v with
      state := .opening, flowed := false, settleRan := false, openExpiry := none,
      closeExpiry := v.queue.head?.map fun w => w.closeAt, settleExpiry := none }) s (fun _ h => h)).of
    have h2 := h1.then (driveValve_reacts d true _)
    refine Reacts.ite (fun _ => Reacts.refl ..) (fun _ => Reacts.ite (fun _ => ?_) (fun _ => ?_))
    · exact h2.then (pressureArrives_reacts ..)
    · exact h2.then (updValve_reacts _ _ _ (fun _ h => h))
  · exact Reacts.refl ..

theorem armHead_reacts (d : Nat) (s : State) : Reacts [.lp, .vg, .pi, .cm] s (armHead d s) := by
  unfold armHead
  split
  · exact Reacts.refl ..
  · split
    · exact Reacts.mono (updValve_reacts d _ s (fun _ h => h)) (ch := [.vg]) (by simp)
    · refine Reacts.ite (fun _ => Reacts.ite (fun _ => ?_) (fun _ => ?_)) (fun _ => ?_)
      · exact Reacts.mono (updValve_reacts d _ s (fun _ h => h)) (ch := [.vg]) (by simp)
      · exact openHead_reacts ..
      · exact Reacts.mono (updValve_reacts d _ s (fun _ h => h)) (ch := [.vg]) (by simp)

theorem takeWindow_reacts (d : Nat) (w : Window) (s : State) : Reacts [.lp, .vg, .pi, .cm] s (takeWindow d w s) := by
  unfold takeWindow
  split
  · rename_i v e _ _
    refine Reacts.ite (fun _ => ?_) (fun _ => ?_)
    · exact Reacts.mono (updValve_reacts d _ s (fun _ h => h)) (ch := [.vg]) (by simp)
    · exact ((updValve_reacts d _ s (fun _ h => mergeWindow_length e.minOff w h)).of).then (armHead_reacts ..)
  · exact Reacts.refl ..

theorem closeHead_reacts (d : Nat) (s : State) : Reacts [.lp, .vg, .pi, .cm] s (closeHead d s) := by
  unfold closeHead
  split
  · exact Reacts.refl ..
  · rename_i v _
    split
    · exact Reacts.refl ..
    · rename_i h r _
      have h1 : Reacts [.lp, .vg, .pi, .cm] s _ := ((driveValve_reacts d false s).of).then
        (updValve_reacts d (fun v => { v with
          state := .idle, queue := v.queue.tail, closeExpiry := none, settleExpiry := none,
          last := some (h, windowOutcome v) }) _ (fun v h => by simp; omega))
      refine Reacts.trans ?_ (armHead_reacts ..)
      exact Reacts.ite (fun _ => h1.then (postNotice_reacts ..)) (fun _ => h1)

theorem pressureChange_reacts (d : Nat) (made : Bool) (s : State) :
    Reacts [.lp, .vg] s (pressureChange d made s) := by
  unfold pressureChange
  split
  · split
    · exact (postNotice_reacts ..).of
    · exact pressureArrives_reacts ..
    · exact Reacts.mono (updValve_reacts d _ s (fun _ h => h)) (ch := [.vg]) (by simp)
    · exact Reacts.refl ..
  · exact Reacts.refl ..

theorem closeForConfig_reacts (d : Nat) (s : State) : Reacts [.vg, .pi, .cm] s (closeForConfig d s) :=
  ((driveValve_reacts d false s).of).then (updValve_reacts _ _ _ (fun _ _ => by simp))

theorem valvesToConfig_reacts (s : State) : Reacts [.vg, .pi, .cm] s (valvesToConfig s) :=
  Reacts.foldl (fun t d => closeForConfig_reacts d t) _ s

theorem setGateState_reacts (d : Nat) (new : GateState) (s : State) : Reacts [.lp, .vg] s (setGateState d new s) := by
  unfold setGateState
  split
  · exact Reacts.refl ..
  · exact Reacts.ite (fun _ => Reacts.refl ..) (fun _ => ((updGate_reacts ..).of).then (postNotice_reacts ..))

theorem driveGate_reacts (d : Nat) (diverted : Bool) (s : State) : Reacts [.vg, .pi, .cm] s (driveGate d diverted s) := by
  unfold driveGate
  have h : Reacts [.vg, .pi, .cm] s _ := (updGate_reacts d (fun g => { g with commanded := diverted }) s).of
  simp only
  split
  · exact h
  · exact h.then (writeOut_reacts ..)

theorem divertDemand_reacts (d incident : Nat) (s : State) :
    Reacts [.lp, .vg, .pi, .cm] s (divertDemand d incident s).1 := by
  unfold divertDemand
  split
  · rename_i g e _ _
    split
    · exact Reacts.refl ..
    · split
      · exact (updGate_reacts ..).of
      · exact (updGate_reacts ..).of
      · have h : Reacts [.lp, .vg, .pi, .cm] s _ := (driveGate_reacts d true s).of
        simp only
        split
        · exact (h.then (updGate_reacts ..)).then (setGateState_reacts ..)
        · exact (h.then (updGate_reacts ..)).then (setGateState_reacts ..)
  · exact Reacts.refl ..

theorem returnDemand_reacts (d : Nat) (s : State) : Reacts [.lp, .vg, .pi, .cm] s (returnDemand d s) := by
  unfold returnDemand
  split
  · split
    · exact Reacts.refl ..
    · split
      · exact Reacts.refl ..
      · exact Reacts.refl ..
      · have h : Reacts [.lp, .vg, .pi, .cm] s _ := (driveGate_reacts d false s).of
        simp only
        split
        · exact (h.then (updGate_reacts ..)).then (setGateState_reacts ..)
        · exact (h.then (updGate_reacts ..)).then (setGateState_reacts ..)
  · exact Reacts.refl ..

theorem gateDiverted_reacts (d : Nat) (p : Option Nat) (s : State) :
    Reacts [.lp, .vg] s (gateDiverted d p s).1 := ((updGate_reacts ..).of).then (setGateState_reacts ..)

theorem gateJams_reacts (d : Nat) (hand : Bool) (p : Option Nat) (s : State) :
    Reacts [.lp, .vg] s (gateJams d hand p s).1 := ((updGate_reacts ..).of).then (setGateState_reacts ..)

theorem positionChange_reacts (d : Nat) (made : Bool) (s : State) :
    Reacts [.lp, .vg] s (positionChange d made s).1 := by
  unfold positionChange
  split
  · exact Reacts.refl ..
  · split
    · exact Reacts.refl ..
    · split
      · exact gateDiverted_reacts ..
      · exact ((updGate_reacts ..).of).then (setGateState_reacts ..)
      · exact gateJams_reacts ..
      · exact gateJams_reacts ..
      · split
        · exact gateDiverted_reacts ..
        · exact Reacts.refl ..
      · split
        · exact Reacts.refl ..
        · exact setGateState_reacts ..
      · exact Reacts.refl ..

theorem travelRunsOut_reacts (d : Nat) (s : State) : Reacts [.lp, .vg] s (travelRunsOut d s).1 := by
  unfold travelRunsOut
  split
  · exact Reacts.refl ..
  · split
    · exact gateJams_reacts ..
    · exact gateJams_reacts ..
    · exact (updGate_reacts ..).of

/-! ## GS (Chapter 6) -/

theorem updRunner_reacts (g : Nat) (f : Runner → Runner) (s : State) : Reacts [.gs] s (updRunner g f s) :=
  updGroup_reacts ..

theorem beginStep_reacts (g : Nat) (e : GroupEntry) (k : ListKind) (st : ListStep) (s : State) :
    Reacts [.gs, .pi, .cm] s (beginStep g e k st s).1 := by
  unfold beginStep
  split
  · exact (writeOut_reacts ..).of
  · exact (writeOuts_reacts ..).of
  · exact Reacts.refl ..
  · exact Reacts.refl ..
  · refine Reacts.then ?_ (writeOut_reacts ..)
    exact Reacts.ite (fun _ => Reacts.refl ..) (fun _ => (updRunner_reacts ..).of)

theorem completeStep_reacts (g : Nat) (st : ListStep) (s : State) : Reacts [.gs] s (completeStep g st s) := by
  unfold completeStep
  split
  · exact updRunner_reacts ..
  · exact Reacts.refl ..

theorem stepFault_reacts (g : Nat) (e : GroupEntry) (k : ListKind) (n : Nat) (st : ListStep) (s : State) :
    Reacts [.lp, .gs] s (stepFault g e k n st s) := ((updGroup_reacts ..).of).then (postNotice_reacts ..)

theorem runSteps_reacts (g : Nat) (e : GroupEntry) (k : ListKind) (steps : List ListStep) (n : Nat) (s : State) :
    Reacts [.lp, .gs, .pi, .cm] s (runSteps g e k steps n s).1 := by
  induction steps generalizing n s with
  | nil => exact Reacts.refl ..
  | cons st rest ih =>
    simp only [runSteps]
    have h1 : Reacts [.lp, .gs, .pi, .cm] s _ := (updRunner_reacts g (fun r => { r with step := n, expiry := none }) s).of
    have h2 := h1.then (beginStep_reacts g e k st _)
    split
    · rename_i s2 hs
      rw [hs] at h2
      exact (h2.then (completeStep_reacts ..)).trans (ih ..)
    · rename_i s2 t hs
      rw [hs] at h2
      exact h2.then (updRunner_reacts ..)
    · rename_i s2 hs
      rw [hs] at h2
      split
      · exact (h2.then (stepFault_reacts ..)).trans (ih ..)
      · exact h2.then (stepFault_reacts ..)

theorem setGroupState_reacts (g : Nat) (new : GroupState) (s : State) :
    Reacts [.lp, .gs] s (setGroupState g new s) := by
  unfold setGroupState
  split
  · exact Reacts.refl ..
  · exact Reacts.ite (fun _ => Reacts.refl ..) (fun _ => ((updGroup_reacts ..).of).then (postNotice_reacts ..))

theorem endRun_reacts (g : Nat) (k : ListKind) (n : Nat) (o : RunOutcome) (s : State) :
    Reacts [.gs] s (endRun g k n o s) := updGroup_reacts ..

theorem runShutdown_reacts (g : Nat) (e : GroupEntry) (n : Nat) (s : State) :
    Reacts [.lp, .gs, .pi, .cm] s (runShutdown g e n s) := by
  unfold runShutdown
  have h := runSteps_reacts g e .shutdown (e.shutdown.drop (n - 1)) n s
  split
  · rename_i s1 hs
    rw [hs] at h
    exact ((h.then (endRun_reacts ..)).then (updGroup_reacts ..)).then (setGroupState_reacts ..)
  · rename_i s1 _ _ hs
    rw [hs] at h
    exact h

theorem newRunner_reacts (g : Nat) (k : ListKind) (keep : Bool) (s : State) : Reacts [.gs] s (newRunner g k keep s) :=
  updGroup_reacts ..

theorem beginShutdown_reacts (g : Nat) (e : GroupEntry) (p : Priority) (src : ShutdownSource) (s : State) :
    Reacts [.lp, .gs, .pi, .cm] s (beginShutdown g e p src s) := by
  unfold beginShutdown
  exact ((((updGroup_reacts ..).of).then (newRunner_reacts ..)).then (setGroupState_reacts ..)).trans
    (runShutdown_reacts ..)

theorem raisePriority_reacts (g : Nat) (e : GroupEntry) (s : State) :
    Reacts [.lp, .gs, .pi, .cm] s (raisePriority g e s) := by
  unfold raisePriority
  have h : Reacts [.lp, .gs, .pi, .cm] s _ := (updGroup_reacts g (fun r => { r with priority := some .immediate }) s).of
  simp only
  split
  · exact h
  · split
    · exact h.trans (runShutdown_reacts ..)
    · exact h

theorem takeDemand_reacts (g : Nat) (e : GroupEntry) (p : Priority) (src : ShutdownSource) (s : State) :
    Reacts [.lp, .gs, .pi, .cm] s (takeDemand g e p src s) := by
  unfold takeDemand
  split
  · exact Reacts.refl ..
  · split
    · exact beginShutdown_reacts ..
    · exact ((endRun_reacts ..).of).trans (beginShutdown_reacts ..)
    · exact Reacts.ite (fun _ => raisePriority_reacts ..) (fun _ => Reacts.refl ..)
    · exact Reacts.refl ..

theorem shutdownDemand_reacts (g : Nat) (p : Priority) (src : ShutdownSource) (s : State) :
    Reacts [.lp, .gs, .pi, .cm] s (shutdownDemand g p src s).1 := by
  unfold shutdownDemand
  split
  · exact Reacts.refl ..
  · split
    · split
      · exact ((updGroup_reacts ..).of).then (postNotice_reacts ..)
      · exact takeDemand_reacts ..
    · exact Reacts.refl ..

theorem fanTrips_reacts (g : Nat) (s : State) : Reacts [.lp, .gs, .pi, .cm] s (fanTrips g s) :=
  ((postNotice_reacts ..).of).trans (shutdownDemand_reacts ..)

theorem runRestart_reacts (g : Nat) (e : GroupEntry) (n : Nat) (s : State) :
    Reacts [.lp, .gs, .pi, .cm] s (runRestart g e n s) := by
  unfold runRestart
  have h := runSteps_reacts g e .restart (e.restart.drop (n - 1)) n s
  split
  · rename_i s1 hs
    rw [hs] at h
    exact h
  · rename_i s1 hs
    rw [hs] at h
    have h2 := (h.then (endRun_reacts g .restart e.restart.length .completed s1)).then (setGroupState_reacts g .running _)
    exact Reacts.ite (fun _ => h2) (fun _ => h2.trans (fanTrips_reacts ..))
  · rename_i s1 k hs
    rw [hs] at h
    exact (h.then (endRun_reacts ..)).trans (beginShutdown_reacts ..)

theorem runList_reacts (g : Nat) (e : GroupEntry) (k : ListKind) (n : Nat) (s : State) :
    Reacts [.lp, .gs, .pi, .cm] s (runList g e k n s) := by
  unfold runList
  split
  · exact runShutdown_reacts ..
  · exact runRestart_reacts ..

theorem beginRestart_reacts (g : Nat) (e : GroupEntry) (s : State) :
    Reacts [.lp, .vg, .gs, .pi, .cm] s (beginRestart g e s) := by
  unfold beginRestart
  refine Reacts.then (Reacts.then (Reacts.then ?_ (newRunner_reacts ..)) (setGroupState_reacts ..)) (runRestart_reacts ..)
  exact Reacts.foldl (fun t d => Reacts.ite (fun _ => (returnDemand_reacts ..).of) (fun _ => Reacts.refl ..)) _ s

theorem awaitChange_reacts (g p : Nat) (made : Bool) (s : State) :
    Reacts [.lp, .gs, .pi, .cm] s (awaitChange g p made s) := by
  unfold awaitChange
  split
  · split
    · exact Reacts.ite (fun _ => ((completeStep_reacts ..).of).trans (runList_reacts ..)) (fun _ => Reacts.refl ..)
    · exact Reacts.refl ..
  · exact Reacts.refl ..

theorem feedbackChange_reacts (g : Nat) (made : Bool) (s : State) :
    Reacts [.lp, .gs, .pi, .cm] s (feedbackChange g made s) := by
  unfold feedbackChange
  split
  · exact Reacts.refl ..
  · split
    · exact fanTrips_reacts ..
    · exact Reacts.ite (fun _ => fanTrips_reacts ..) (fun _ => Reacts.refl ..)
    · exact (postNotice_reacts ..).of
    · exact Reacts.refl ..

theorem groupInputChange_reacts (g p : Nat) (made : Bool) (s : State) :
    Reacts [.lp, .gs, .pi, .cm] s (groupInputChange g p made s) := by
  unfold groupInputChange
  refine Reacts.ite (fun _ => Reacts.refl ..) (fun _ => Reacts.trans ?_ (awaitChange_reacts ..))
  split
  · exact Reacts.ite (fun _ => feedbackChange_reacts ..) (fun _ => Reacts.refl ..)
  · exact Reacts.refl ..

theorem pauseRunsOut_reacts (g : Nat) (s : State) : Reacts [.lp, .gs, .pi, .cm] s (pauseRunsOut g s) := by
  unfold pauseRunsOut
  split
  · exact Reacts.ite (fun _ => runList_reacts ..) (fun _ => Reacts.refl ..)
  · exact Reacts.refl ..

theorem stepRunsOut_reacts (g : Nat) (s : State) : Reacts [.lp, .gs, .pi, .cm] s (stepRunsOut g s) := by
  unfold stepRunsOut
  split
  · rename_i e k n st t _ _
    refine Reacts.ite (fun _ => ?_) (fun _ => Reacts.refl ..)
    have h : Reacts [.lp, .gs, .pi, .cm] s _ :=
      ((updRunner_reacts g (fun r => { r with expiry := none }) s).of).then (stepFault_reacts g e k n st _)
    cases k
    · exact h.trans (runShutdown_reacts ..)
    · exact (h.then (endRun_reacts ..)).trans (beginShutdown_reacts ..)
  · exact Reacts.refl ..

/-! ## CC (Chapter 7) -/

theorem markReleased_reacts (w : Nat) (s : State) : Reacts [.it] s (markReleased w s) :=
  it_reacts s _ fun h => mapIncidents_bounds _ (fun _ => rfl) (fun _ h => h) (fun _ h => by simpa using h) h

theorem setWallState_reacts (w : Nat) (new : WallState) (s : State) : Reacts [.lp, .cc] s (setWallState w new s) := by
  unfold setWallState
  split
  · exact Reacts.refl ..
  · exact Reacts.ite (fun _ => Reacts.refl ..) (fun _ => ((updWall_reacts ..).of).then (postNotice_reacts ..))

theorem enterReleased_reacts (w : Nat) (s : State) :
    Reacts [.lp, .it, .gs, .cc, .pi, .cm] s (enterReleased w s) := by
  unfold enterReleased
  split
  · exact Reacts.refl ..
  · rename_i e _
    refine Reacts.then ?_ (markReleased_reacts ..)
    refine Reacts.trans ?_ (Reacts.foldl (fun t g => (shutdownDemand_reacts ..).of) _ _)
    refine Reacts.then ?_ (setWallState_reacts ..)
    refine Reacts.trans ?_ (Reacts.foldl (fun t c => (updCrossing_reacts ..).of) _ _)
    refine Reacts.then ?_ (updWall_reacts ..)
    exact ((((updWall_reacts ..).of).then (writeOut_reacts ..)).then (writeOut_reacts ..)).then (writeOuts_reacts ..)

theorem releaseByState_reacts (w : Nat) (s : State) :
    Reacts [.lp, .it, .gs, .cc, .pi, .cm] s (releaseByState w s).1 := by
  unfold releaseByState
  split
  · split
    · split
      · exact enterReleased_reacts ..
      · exact (((writeOut_reacts ..).of).then (updWall_reacts ..)).then (setWallState_reacts ..)
    · exact Reacts.refl ..
    · exact Reacts.refl ..
  · exact Reacts.refl ..

theorem releaseDemand_reacts (w incident : Nat) (s : State) :
    Reacts [.lp, .it, .gs, .cc, .pi, .cm] s (releaseDemand w incident s).1 := by
  unfold releaseDemand
  split
  · exact Reacts.refl ..
  · split
    · exact ((updWall_reacts ..).of).then (postNotice_reacts ..)
    · exact ((updWall_reacts ..).of).trans (releaseByState_reacts ..)

theorem circuitRelease_reacts (w : Nat) (s : State) :
    Reacts [.lp, .it, .gs, .cc, .pi, .cm] s (circuitRelease w s) := by
  unfold circuitRelease
  split
  · exact Reacts.refl ..
  · have h : Reacts [.lp, .it, .gs, .cc, .pi, .cm] s _ :=
      (updWall_reacts w (fun r => { r with causes := { r.causes with circuit := true } }) s).of
    exact Reacts.ite (fun _ => h) (fun _ => h.trans (enterReleased_reacts ..))

theorem holderReport_reacts (w : Nat) (c : Circuit) (s : State) :
    Reacts [.lp, .it, .gs, .cc, .pi, .cm] s (holderReport w c s) := by
  unfold holderReport
  split
  · exact Reacts.refl ..
  · have h : Reacts [.lp, .it, .gs, .cc, .pi, .cm] s _ := (updWall_reacts w (fun r => { r with holder := c }) s).of
    exact Reacts.ite (fun _ => h) (fun _ => h.trans (circuitRelease_reacts ..))

theorem cancelWarning_reacts (w : Nat) (s : State) : Reacts [.lp, .cc, .pi, .cm] s (cancelWarning w s) := by
  unfold cancelWarning
  split
  · exact Reacts.refl ..
  · exact (((writeOut_reacts ..).of).then (updWall_reacts ..)).then (setWallState_reacts ..)

theorem closeAtWall_reacts (comps : List Nat) (w : Nat) (s : State) :
    Reacts [.lp, .cc, .pi, .cm] s (closeAtWall comps w s) := by
  unfold closeAtWall
  split
  · rename_i r e _ _
    refine Reacts.ite (fun _ => ?_) (fun _ => Reacts.refl ..)
    have h : Reacts [.lp, .cc, .pi, .cm] s _ :=
      (updWall_reacts w (fun r => { r with causes := { r.causes with incident := false } }) s).of
    exact Reacts.ite (fun _ => h) (fun _ => h.trans (cancelWarning_reacts ..))
  · exact Reacts.refl ..

theorem wallsTakeClose_reacts (comps : List Nat) (s : State) : Reacts [.lp, .cc, .pi, .cm] s (wallsTakeClose comps s) :=
  Reacts.foldl (fun t w => closeAtWall_reacts comps w t) _ s

theorem reholdReleased_reacts (w : Nat) (e : WallEntry) (s : State) :
    Reacts [.lp, .cc, .pi, .cm] s (reholdReleased w e s) := by
  unfold reholdReleased
  refine Reacts.then ?_ (setWallState_reacts ..)
  refine Reacts.trans ?_ (Reacts.foldl (fun t c => (updCrossing_reacts ..).of) _ _)
  exact (((writeOut_reacts ..).of).then (writeOuts_reacts ..)).then (updWall_reacts ..)

theorem setDoor_reacts (w n : Nat) (new : Door) (s : State) : Reacts [.lp, .cc] s (setDoor w n new s) := by
  unfold setDoor
  split
  · exact Reacts.refl ..
  · split
    · exact Reacts.refl ..
    · have h : Reacts [.lp, .cc] s _ := (updWall_reacts w (fun r => { r with doors := r.doors.set (n - 1) new }) s).of
      exact Reacts.ite (fun _ => h.then (postNotice_reacts ..)) (fun _ => h)

theorem doorChange_reacts (w n : Nat) (made : Bool) (s : State) : Reacts [.lp, .cc] s (doorChange w n made s) := by
  unfold doorChange
  split
  · split
    · exact Reacts.refl ..
    · refine Reacts.ite (fun _ => ?_) (fun _ => setDoor_reacts ..)
      split
      · exact setDoor_reacts ..
      · exact setDoor_reacts ..
      · exact setDoor_reacts ..
      · exact Reacts.refl ..
  · exact Reacts.refl ..

theorem doorRunsOut_reacts (w n : Nat) (s : State) : Reacts [.lp, .cc] s (doorRunsOut w n s) := by
  unfold doorRunsOut
  split
  · exact Reacts.refl ..
  · split
    · exact Reacts.refl ..
    · exact Reacts.ite (fun _ => Reacts.ite (fun _ => setDoor_reacts ..) (fun _ => setDoor_reacts ..))
        (fun _ => Reacts.refl ..)

theorem setCrossing_reacts (c : Nat) (cls : NoticeClass) (new : Crossing) (s : State) :
    Reacts [.lp, .cc] s (setCrossing c cls new s) := ((updCrossing_reacts ..).of).then (postNotice_reacts ..)

theorem damperChange_reacts (c : Nat) (made : Bool) (s : State) : Reacts [.lp, .cc] s (damperChange c made s) := by
  unfold damperChange
  split
  · refine Reacts.ite (fun _ => ?_) (fun _ => ?_)
    · split
      · exact setCrossing_reacts ..
      · exact setCrossing_reacts ..
      · exact setCrossing_reacts ..
      · exact Reacts.refl ..
    · split
      · exact setCrossing_reacts ..
      · exact setCrossing_reacts ..
      · exact Reacts.refl ..
  · exact Reacts.refl ..

theorem damperRunsOut_reacts (c : Nat) (s : State) : Reacts [.lp, .cc] s (damperRunsOut c s) := by
  unfold damperRunsOut
  split
  · exact Reacts.refl ..
  · exact Reacts.ite (fun _ => Reacts.ite (fun _ => setCrossing_reacts ..) (fun _ => (updCrossing_reacts ..).of))
      (fun _ => Reacts.refl ..)

/-! ## SC (Chapter 8) -/

theorem driveSiren_reacts (n : Nat) (s : State) : Reacts [.pi, .cm] s (driveSiren n s) := by
  unfold driveSiren
  split
  · exact writeOut_reacts ..
  · exact Reacts.refl ..

theorem reselect_reacts (n : Nat) (s : State) : Reacts [.sc, .pi, .cm] s (reselect n s) := by
  unfold reselect
  split
  · exact Reacts.refl ..
  · exact Reacts.ite (fun _ => Reacts.refl ..) (fun _ => ((updSiren_reacts ..).of).then (driveSiren_reacts ..))

theorem eachSiren_reacts (ns : List Nat) (f : Siren → Siren) (s : State) :
    Reacts [.sc, .pi, .cm] s (eachSiren ns f s) :=
  Reacts.foldl (fun t n => ((updSiren_reacts ..).of).trans (reselect_reacts n _)) ns s

theorem sirenDemand_reacts (n c : Nat) (evacuate : Bool) (s : State) :
    Reacts [.sc, .pi, .cm] s (sirenDemand n c evacuate s).1 := eachSiren_reacts ..

theorem setSilenced_reacts (n : Nat) (v : Bool) (s : State) : Reacts [.sc, .pi, .cm] s (setSilenced n v s) :=
  eachSiren_reacts ..

theorem removeDemands_reacts (n : Nat) (s : State) : Reacts [.sc, .pi, .cm] s (removeDemands n s) := eachSiren_reacts ..

theorem startTest_reacts (src : TestSource) (duration : Nat) (s : State) :
    Reacts [.lp, .sc, .pi, .cm] s (startTest src duration s) :=
  (((sc_reacts s _).of).then (eachSiren_reacts ..)).then (postNotice_reacts ..)

theorem stopTest_reacts (s : State) : Reacts [.sc, .pi, .cm] s (stopTest s) :=
  ((sc_reacts s _).of).then (eachSiren_reacts ..)

theorem clearMarks_reacts (s : State) : Reacts [.sc] s (clearMarks s) := sc_reacts s _

theorem interruptTest_reacts (byConfig : Bool) (s : State) :
    Reacts [.lp, .sc, .pi, .cm] s (interruptTest byConfig s) := by
  unfold interruptTest
  split
  · exact Reacts.refl ..
  · exact (((stopTest_reacts s).of).then (postNotice_reacts ..)).then (clearMarks_reacts ..)

theorem completeTest_reacts (s : State) : Reacts [.lp, .sc, .pi, .cm] s (completeTest s) := by
  unfold completeTest
  split
  · exact Reacts.refl ..
  · exact (((stopTest_reacts s).of).then (postNotice_reacts ..)).then (clearMarks_reacts ..)

theorem silenceForConfig_reacts (n : Nat) (s : State) : Reacts [.sc, .pi, .cm] s (silenceForConfig n s) :=
  ((updSiren_reacts ..).of).then (driveSiren_reacts ..)

theorem sirensToConfig_reacts (s : State) : Reacts [.lp, .sc, .pi, .cm] s (sirensToConfig s) :=
  (interruptTest_reacts ..).then (Reacts.foldl (fun t n => silenceForConfig_reacts n t) _ _)

theorem judgeSchedule_reacts (s : State) : Reacts [.lp, .sc, .pi, .cm] s (judgeSchedule s) := by
  unfold judgeSchedule
  split
  · exact Reacts.refl ..
  · refine Reacts.ite (fun _ => Reacts.ite (fun _ => ?_) (fun _ => Reacts.ite (fun _ => ?_) (fun _ => ?_)))
      (fun _ => Reacts.refl ..)
    · exact (postNotice_reacts ..).of
    · exact (postNotice_reacts ..).of
    · exact startTest_reacts ..

theorem sirenReport_reacts (n : Nat) (c : Circuit) (s : State) : Reacts [.sc] s (sirenReport n c s) :=
  updSiren_reacts ..

theorem isolateSiren_reacts (n : Nat) (s : State) : Reacts [.sc, .pi, .cm] s (isolateSiren n s) := eachSiren_reacts ..

theorem restoreSiren_reacts (n : Nat) (s : State) : Reacts [.sc, .pi, .cm] s (restoreSiren n s) := by
  unfold restoreSiren
  split
  · exact Reacts.refl ..
  · exact eachSiren_reacts ..

end Sys2Proof.Machine
end

