-- ==== Sys2Proof/Laws/ReactsIncidents.lean ====
section
/-! SUPPORT. The reactions of TC, IT, PI and CM: the blocks each touches, and that each keeps every limit. -/

namespace Sys2Proof.Machine

-- One lemma at a time: each waits for the equations of the definitions it unfolds, and each would hold a thread.
set_option Elab.async false

/-! ## TC (Chapter 3) -/

theorem decideFlow_reacts (d : Nat) (s : State) : Reacts [.lp, .tc] s (decideFlow d s) := by
  unfold decideFlow
  split
  · exact Reacts.ite (fun _ => Reacts.refl ..) (fun _ => ((updVelocity_reacts ..).of).then (postNotice_reacts ..))
  · exact Reacts.refl ..

theorem takeReading_reacts (d raw : Nat) (s : State) : Reacts [.lp, .tc] s (takeReading d raw s) := by
  unfold takeReading
  split
  · exact Reacts.refl ..
  · exact ((updVelocity_reacts ..).of).trans (decideFlow_reacts ..)

theorem staleRunsOut_reacts (d : Nat) (s : State) : Reacts [.lp, .tc] s (staleRunsOut d s) := by
  unfold staleRunsOut
  split
  · exact Reacts.refl ..
  · exact Reacts.ite (fun _ => ((updVelocity_reacts ..).of).trans (decideFlow_reacts ..)) (fun _ => Reacts.refl ..)

theorem takeTransit_reacts (d addr : Nat) (t0 : PartTime) (s : State) :
    Reacts [.lp, .tc, .vg, .pi, .cm] s (takeTransit d addr t0 s).1 := by
  unfold takeTransit
  split
  · refine Reacts.then ?_ (updVelocity_reacts ..)
    split
    · exact (takeWindow_reacts ..).of
    · exact Reacts.refl ..
  · exact Reacts.refl ..

/-! ## IT (Chapter 5) -/

/-- A change of an incident that adds to neither of its lists. -/
theorem updIncident_keeps (n : Nat) (f : Incident → Incident) (s : State) {ch : List Block}
    (hm : ∀ i, (f i).merged.length = i.merged.length) (ha : ∀ i, (f i).actions.length = i.actions.length)
    (hc : Block.it ∈ ch := by simp) (hid : ∀ i, (f i).id = i.id := by intros; rfl) : Reacts ch s (updIncident n f s) :=
  (updIncident_reacts n f s (fun i h => by rw [hm]; exact h) (fun i h => by rw [ha]; exact h) hid).mono (by simpa using hc)

/-- A demand joins an action list only while the list has room. -/
theorem issue_reacts (id : Nat) (k : ActionKind) (n : Nat) (f : State → State × ActionResult) (s : State)
    {ch : List Block} (hf : Reacts ch s (f s).1) (hc : Block.it ∈ ch) : Reacts ch s (issue id k n f s) := by
  unfold issue
  split
  · exact Reacts.refl ..
  · refine Reacts.ite (fun _ => Reacts.refl ..) (fun _ => hf.then (updIncident_reacts _ _ _ ?_ ?_ ?_) (by simpa using hc))
    · intro i h
      dsimp only
      split <;> exact h
    · intro i h
      dsimp only
      split
      · exact h
      · rename_i hl
        simp only [Config.actionLimit, Nat.not_le] at hl
        simp; omega
    · intro i
      dsimp only
      split <;> rfl

theorem reportDivert_reacts (id d : Nat) (r : ActionResult) (s : State) : Reacts [.it] s (reportDivert id d r s) :=
  updIncident_keeps _ _ _ (fun _ => rfl) (fun _ => by simp)

theorem divertOrigin_reacts (id d : Nat) (n : Option (Nat × PartTime)) (s : State) :
    Reacts [.lp, .vg, .it, .pi, .cm] s (divertOrigin id d n s) := by
  unfold divertOrigin
  refine Reacts.ite (fun _ => Reacts.trans ?_ (issue_reacts _ _ _ _ _ ?_ (by simp))) (fun _ => Reacts.refl ..)
  · exact updIncident_keeps _ _ _ (fun _ => rfl) (fun _ => rfl)
  · exact (divertDemand_reacts ..).of

/-- What a demand of IT touches, whatever block takes it. -/
theorem demandOf_reacts (id : Nat) (k : ActionKind) (n : Nat) (s : State) :
    Reacts [.lp, .vg, .it, .gs, .cc, .sc, .pi, .cm] s (demandOf id k n s).1 := by
  cases k
  · exact (divertDemand_reacts ..).of
  · exact (sirenDemand_reacts ..).of
  · exact (sirenDemand_reacts ..).of
  · exact (shutdownDemand_reacts ..).of
  · exact (releaseDemand_reacts ..).of

/-- Demands issued in turn touch what each of them may. -/
theorem issueAll_reacts {ch : List Block} (id : Nat) (l : List (ActionKind × Nat)) (hc : Block.it ∈ ch)
    (h : ∀ x ∈ l, ∀ s, Reacts ch s (demandOf id x.1 x.2 s).1) (s : State) : Reacts ch s (issueAll id l s) := by
  induction l generalizing s with
  | nil => exact Reacts.refl ..
  | cons x r ih =>
    exact Reacts.trans (issue_reacts _ _ _ _ _ (h x (List.mem_cons_self ..) s) hc)
      (ih (fun y hy => h y (List.mem_cons_of_mem _ hy)) _)

theorem level2Actions_reacts (id : Nat) (os : List Origin) (b : Option (Nat × PartTime)) (s : State) :
    Reacts [.lp, .vg, .it, .sc, .pi, .cm] s (level2Actions id os b s) := by
  unfold level2Actions
  refine Reacts.trans ?_ (issueAll_reacts _ _ (by simp) (fun x hx s => ?_) _)
  · refine Reacts.foldl (fun t o => ?_) _ _
    split
    · exact (divertOrigin_reacts ..).of
    · exact Reacts.refl ..
  · obtain ⟨c, -, rfl⟩ := List.mem_map.mp hx
    exact (sirenDemand_reacts ..).of

theorem level3Actions_reacts (id : Nat) (os : List Origin) (s : State) :
    Reacts [.lp, .it, .gs, .cc, .sc, .pi, .cm] s (level3Actions id os s) := by
  refine issueAll_reacts _ _ (by simp) (fun x hx s => ?_) _
  simp only [level3Demands, List.mem_append, List.mem_map] at hx
  obtain (⟨g, -, rfl⟩ | ⟨w, -, rfl⟩) | ⟨c, -, rfl⟩ := hx
  · exact (shutdownDemand_reacts ..).of
  · exact (releaseDemand_reacts ..).of
  · exact (sirenDemand_reacts ..).of

theorem enterLevels_reacts (id old new : Nat) (os : List Origin) (b : Option (Nat × PartTime)) (s : State) :
    Reacts [.lp, .vg, .it, .gs, .cc, .sc, .pi, .cm] s (enterLevels id old new os b s) := by
  unfold enterLevels
  have h : Reacts [.lp, .vg, .it, .gs, .cc, .sc, .pi, .cm] s
      (if old < 2 ∧ 2 ≤ new then level2Actions id os b (interruptTest false s) else s) :=
    Reacts.ite (fun _ => ((interruptTest_reacts ..).of).then (level2Actions_reacts ..)) (fun _ => Reacts.refl ..)
  exact Reacts.ite (fun _ => h.then (level3Actions_reacts ..)) (fun _ => h)

theorem rise_reacts (id new : Nat) (cs : List Cause) (b : Option (Nat × PartTime)) (s : State) :
    Reacts [.lp, .vg, .it, .gs, .cc, .sc, .pi, .cm] s (rise id new cs b s) := by
  unfold rise
  split
  · exact Reacts.refl ..
  · refine Reacts.ite (fun _ => ?_) (fun _ => updIncident_keeps _ _ _ (fun _ => rfl) (fun _ => rfl))
    refine Reacts.then (Reacts.trans (Reacts.then ?_ (setSilenced_reacts ..)) (enterLevels_reacts ..)) (postNotice_reacts ..)
    exact updIncident_keeps _ _ _ (fun _ => rfl) (fun _ => rfl)

/-- The number k places after a last allocated id, counting 255 to 1. -/
def placeAfter (last k : Nat) : Nat := ((if 255 ≤ last then 0 else last) + k) % 255 + 1

/-- A held id is allocated only after every try has met a held id. -/
theorem nextId_tried {held : List Nat} {tries last : Nat} (h : nextId held tries last ∈ held) (k : Nat) (hk : k ≤ tries) :
    placeAfter last k ∈ held := by
  induction tries generalizing last k with
  | zero =>
    have : k = 0 := by omega
    subst this
    have e : placeAfter last 0 = if 255 ≤ last then 1 else last + 1 := by unfold placeAfter; split <;> omega
    rw [e]; simpa [nextId] using h
  | succ n ih =>
    have e : placeAfter last 0 = if 255 ≤ last then 1 else last + 1 := by unfold placeAfter; split <;> omega
    have e2 : ∀ k, placeAfter (if 255 ≤ last then 1 else last + 1) k = placeAfter last (k + 1) := by
      intro k; unfold placeAfter; split <;> split <;> omega
    unfold nextId at h
    generalize (if 255 ≤ last then 1 else last + 1) = m at e e2 h
    dsimp only at h
    by_cases hc : held.contains m = true
    · rw [if_pos hc] at h
      cases k with
      | zero => rw [e]; simpa using hc
      | succ k => rw [← e2]; exact ih h k (by omega)
    · rw [if_neg hc] at h
      exact absurd (by simpa using h) hc

/-- With fewer than 16 ids held, the id allocated is not one of them (05 R77). -/
theorem nextId_fresh {held : List Nat} (last : Nat) (h : held.length < 16) : nextId held 255 last ∉ held := by
  intro hm
  have hs : (List.range 16).map (placeAfter last) ⊆ held := by
    intro x hx
    obtain ⟨k, hk, rfl⟩ := List.mem_map.1 hx
    exact nextId_tried hm k (by have := List.mem_range.1 hk; omega)
  have hn : ((List.range 16).map (placeAfter last)).Nodup := by
    refine List.pairwise_map.2 (List.Pairwise.imp_of_mem ?_ List.nodup_range)
    intro a b ha hb hab
    have := List.mem_range.1 ha
    have := List.mem_range.1 hb
    unfold placeAfter
    omega
  have := hn.length_le_of_subset hs
  simp at this
  omega

/-- An incident joins the table only while it has room. -/
theorem openIncident_reacts (o : OriginId) (l : Nat) (c : Cause) (b : Option (Nat × PartTime)) (s : State)
    (hr : s.it.incidents.length < 16) :
    Reacts [.lp, .vg, .it, .gs, .cc, .sc, .pi, .cm] s (openIncident o l c b s).1 := by
  unfold openIncident
  refine Reacts.then (Reacts.trans ?_ (enterLevels_reacts ..)) (postNotice_reacts ..)
  refine Reacts.mono (it_reacts s _ fun h => ?_) (ch := [.it]) (by simp)
  refine ⟨by simp; omega, ?_, fun i hi => ?_, fun i hi => ?_, h.rings⟩
  · rw [List.map_append, List.nodup_append]
    refine ⟨h.ids, by simp, fun a ha b hb => ?_⟩
    rintro rfl
    simp only [List.map_cons, List.map_nil, List.mem_singleton] at hb
    subst hb
    exact nextId_fresh _ (by simpa using hr) ha
  · rcases List.mem_append.1 hi with hi | hi
    · exact h.merged i hi
    · rw [List.mem_singleton.1 hi]; exact Nat.zero_le _
  · rcases List.mem_append.1 hi with hi | hi
    · exact h.actions i hi
    · rw [List.mem_singleton.1 hi]; exact Nat.zero_le _

/-- The steps of a close up to the leaving of the record: what they touch. -/
theorem clearOrigins_reacts (id : Nat) (ds : List Nat) (s : State) :
    Reacts [.lp, .vg, .it, .sc, .pi, .cm] s
      (ds.foldl (fun t d => updSparks d (fun r => { r with ring := [] }) t)
        (ds.foldl (fun t d =>
          match Table.get t.model.ducts d with
          | some e =>
            if e.gatePresent && (Table.get t.gs e.group).any fun g => g.state == .running then returnDemand d t else t
          | none => t) (removeDemands id s))) := by
  refine Reacts.trans ?_ (Reacts.foldl (fun t d => (updSparks_reacts _ _ _ (fun r _ => Nat.zero_le _)).of) _ _)
  refine Reacts.trans (removeDemands_reacts ..).of (Reacts.foldl (fun t d => ?_) _ _)
  split
  · exact Reacts.ite (fun _ => (returnDemand_reacts ..).of) (fun _ => Reacts.refl ..)
  · exact Reacts.refl ..

theorem closeIncident_reacts (id : Nat) (w : CloseWay) (s : State) :
    Reacts [.lp, .vg, .it, .cc, .sc, .pi, .cm] s (closeIncident id w s) := by
  unfold closeIncident
  split
  · exact Reacts.refl ..
  · refine Reacts.then ?_ (wallsTakeClose_reacts ..)
    refine Reacts.then ?_ (postNotice_reacts ..)
    refine Reacts.then (clearOrigins_reacts ..).of (it_reacts _ _ fun h => ?_)
    refine ⟨Nat.le_trans (List.length_filter_le ..) h.incidents,
      (List.filter_sublist.map _).nodup h.ids, fun i hi => ?_, fun i hi => ?_, h.rings⟩
    · exact h.merged i (List.mem_filter.1 hi).1
    · exact h.actions i (List.mem_filter.1 hi).1

theorem foldl_keeps {α β : Type} {f : State → α → State} (p : State → β) (hf : ∀ t x, p (f t x) = p t) (l : List α)
    (s : State) : p (l.foldl f s) = p s := by
  induction l generalizing s with
  | nil => rfl
  | cons x r ih => rw [List.foldl_cons, ih, hf]

/-- A close takes the incidents with its id out of the table, and no other (05 R95). -/
theorem closeIncident_incidents (id : Nat) (w : CloseWay) {s : State} {i : Incident} (h : findIncident s id = some i) :
    (closeIncident id w s).it.incidents = s.it.incidents.filter fun j => j.id ≠ id := by
  unfold closeIncident
  rw [h]
  dsimp only
  rw [(wallsTakeClose_reacts ..).frame.it (by simp), (postNotice_reacts ..).frame.it (by simp)]
  dsimp only
  congr 1
  rw [foldl_keeps (f := fun t d => updSparks d (fun r => { r with ring := [] }) t) (fun t => t.it.incidents)
    (fun _ _ => rfl)]
  have k : (removeDemands id s).it = s.it := (removeDemands_reacts ..).frame.it (by simp)
  rw [← k]
  refine foldl_keeps (fun t => t.it.incidents) (fun t d => ?_) _ _
  split
  · split
    · rw [(returnDemand_reacts ..).frame.it (by simp)]
    · rfl
  · rfl

/-- A closed incident leaves room in the table. -/
theorem closeIncident_room (w : CloseWay) {s : State} {i : Incident} (h : i ∈ s.it.incidents)
    (hs : s.it.incidents.length ≤ 16) : (closeIncident i.id w s).it.incidents.length < 16 := by
  have hf : ∃ j, findIncident s i.id = some j := by
    unfold findIncident
    exact Option.isSome_iff_exists.1 (List.find?_isSome.2 ⟨i, h, by simp⟩)
  obtain ⟨j, hj⟩ := hf
  rw [closeIncident_incidents _ _ hj]
  refine Nat.lt_of_lt_of_le ?_ hs
  rw [List.length_filter_lt_length_iff_exists]
  exact ⟨i, h, by simp⟩

/-- Only an incident with fewer than three merged origins takes another. -/
theorem mergeTarget_room {s : State} {o : OriginId} {i : Incident} (h : mergeTarget s o = some i) : i.merged.length < 3 := by
  have key : ∀ (l : List Incident) (b : Option Incident), (∀ j ∈ l, j.merged.length < 3) →
      (∀ j, b = some j → j.merged.length < 3) → ∀ j, l.foldl (fun best i => match best with
        | none => some i
        | some b => if b.level < i.level then some i else some b) b = some j → j.merged.length < 3 := by
    intro l
    induction l with
    | nil => intro b _ hb j hj; exact hb j hj
    | cons x r ih =>
      intro b hl hb j hj
      refine ih _ (fun k hk => hl k (List.mem_cons_of_mem _ hk)) ?_ j hj
      intro k hk
      have hx := hl x (List.mem_cons_self ..)
      cases b with
      | none => simp only [Option.some.injEq] at hk; rw [← hk]; exact hx
      | some b =>
        dsimp only at hk
        split at hk <;> simp only [Option.some.injEq] at hk <;> rw [← hk]
        · exact hx
        · exact hb b rfl
  unfold mergeTarget highestOldest at h
  refine key _ none (fun j hj => ?_) (fun j hj => by cases hj) i h
  have : j ∈ s.it.incidents.filter fun i => decide (i.merged.length < Config.mergedLimit) := by
    split at hj
    · exact hj
    · exact (List.mem_filter.1 hj).1
  exact of_decide_eq_true (List.mem_filter.1 this).2

theorem mergeTarget_mem {s : State} {o : OriginId} {i : Incident} (h : mergeTarget s o = some i) :
    i ∈ s.it.incidents := by
  have key : ∀ (l : List Incident) (b : Option Incident), ∀ j, l.foldl (fun best i => match best with
        | none => some i
        | some b => if b.level < i.level then some i else some b) b = some j → j ∈ l ∨ b = some j := by
    intro l
    induction l with
    | nil => intro b j hj; exact .inr hj
    | cons x r ih =>
      intro b j hj
      rcases ih _ j hj with hj | hj
      · exact .inl (List.mem_cons_of_mem _ hj)
      · cases b with
        | none => simp only [Option.some.injEq] at hj; rw [hj]; exact .inl (List.mem_cons_self ..)
        | some b =>
          dsimp only at hj
          split at hj
          · simp only [Option.some.injEq] at hj; rw [hj]; exact .inl (List.mem_cons_self ..)
          · exact .inr hj
  unfold mergeTarget highestOldest at h
  rcases key _ none i h with hj | hj
  · split at hj
    · exact (List.mem_filter.1 hj).1
    · exact (List.mem_filter.1 (List.mem_filter.1 hj).1).1
  · cases hj

theorem mergeOrigin_reacts (o : OriginId) {i : Incident} (b : Option (Nat × PartTime)) {s : State}
    (hi : i ∈ s.it.incidents) (hm : i.merged.length < 3) :
    Reacts [.lp, .vg, .it, .gs, .cc, .sc, .pi, .cm] s (mergeOrigin o i b s) := by
  unfold mergeOrigin
  refine Reacts.then ?_ (postNotice_reacts ..)
  have h1 : Reacts [.lp, .vg, .it, .gs, .cc, .sc, .pi, .cm] s (updIncident i.id (fun j => { j with
      merged := j.merged ++ [{ id := o, lastSpark := none, held := false, source := none }], acked := false
      resound := none, flags := { j.flags with merged := true, silenced := false }
      unacked := if j.level = 2 then unackedStart s i else j.unacked }) s) := by
    refine Reacts.mono (it_reacts s _ fun h => ?_) (ch := [.it]) (by simp)
    refine ⟨by simpa using h.incidents, ?_, fun j hj => ?_, fun j hj => ?_, h.rings⟩
    · have e : ∀ f : Incident → Incident, (∀ j, (f j).id = j.id) → (s.it.incidents.map fun j => if j.id = i.id then f j else j).map
          (fun j => j.id) = s.it.incidents.map fun j => j.id := by
        intro f hf
        rw [List.map_map]
        refine List.map_congr_left fun j _ => ?_
        simp only [Function.comp]
        split
        · exact hf j
        · rfl
      have := e (fun j => { j with
        merged := j.merged ++ [{ id := o, lastSpark := none, held := false, source := none }], acked := false
        resound := none, flags := { j.flags with merged := true, silenced := false }
        unacked := if j.level = 2 then unackedStart s i else j.unacked }) (fun _ => rfl)
      dsimp only
      rw [this]; exact h.ids
    · obtain ⟨k, hk, rfl⟩ := List.mem_map.1 hj
      split
      · rename_i he
        have : k = i := by
          have hp := List.pairwise_map.1 h.ids
          by_cases hki : k = i
          · exact hki
          · exact absurd he (by
              rcases List.pairwise_iff_getElem.1 hp with hp
              obtain ⟨a, ha, rfl⟩ := List.getElem_of_mem hk
              obtain ⟨c, hc, rfl⟩ := List.getElem_of_mem hi
              rcases Nat.lt_trichotomy a c with l | l | l
              · exact hp a c ha hc l
              · subst l; exact absurd rfl hki
              · exact fun e => hp c a hc ha l e.symm)
        subst this
        simp; omega
      · exact h.merged k hk
    · obtain ⟨k, hk, rfl⟩ := List.mem_map.1 hj
      split
      · exact h.actions k hk
      · exact h.actions k hk
  have h2 := h1.then (setSilenced_reacts i.id false _)
  have h3 : ∀ r, Reacts [.lp, .vg, .it, .gs, .cc, .sc, .pi, .cm] s _ :=
    fun r => Reacts.ite (p := 2 ≤ i.level) (fun _ => h2.then (level2Actions_reacts i.id [r] b _)) (fun _ => h2)
  exact Reacts.ite (fun _ => (h3 _).then (level3Actions_reacts ..)) (fun _ => h3 _)

/-- A new origin is placed within the table's limits (05 R77, R78, R96, R97). -/
theorem placeOrigin_reacts (o : OriginId) (l : Nat) (c : Cause) (b : Option (Nat × PartTime)) (s : State)
    (hs : s.it.incidents.length ≤ 16) :
    Reacts [.lp, .vg, .it, .gs, .cc, .sc, .pi, .cm] s (placeOrigin o l c b s).1 := by
  unfold placeOrigin
  split
  · rename_i h; exact openIncident_reacts _ _ _ _ _ h
  · split
    · rename_i old h
      have hm := List.mem_of_find?_eq_some h
      exact (closeIncident_reacts ..).of.trans (openIncident_reacts _ _ _ _ _ (closeIncident_room _ hm hs))
    · split
      · rename_i i h
        exact mergeOrigin_reacts _ _ (mergeTarget_mem h) (mergeTarget_room h)
      · exact Reacts.refl ..

theorem countSpark_reacts (d : Nat) (s : State) : Reacts [.lp, .it] s (countSpark d s) := by
  unfold countSpark
  split
  · exact Reacts.refl ..
  · refine Reacts.ite (fun _ => ?_) (fun _ => ?_)
    · exact Reacts.mono (updSparks_reacts d _ s (fun r h => h)) (ch := [.it]) (by simp)
    · refine Reacts.then ?_ (postNotice_reacts ..)
      exact Reacts.mono (updSparks_reacts d _ s (fun r h => h)) (ch := [.it]) (by simp)

theorem pushRing_length (t : PartTime) {r : List PartTime} (h : r.length ≤ 16) : (pushRing t r).length ≤ 16 := by
  unfold pushRing Config.ringLimit
  split <;> simp <;> omega

theorem recordSpark_reacts (id : Nat) (k : AcceptedSpark) (s : State) : Reacts [.lp, .it] s (recordSpark id k s) := by
  unfold recordSpark
  refine Reacts.trans (Reacts.trans (Reacts.ite (fun _ => ?_) (fun _ => Reacts.refl ..)) (countSpark_reacts ..))
    (updIncident_keeps _ _ _ (fun _ => by simp) (fun _ => rfl))
  exact Reacts.mono (updSparks_reacts _ _ s (fun r h => pushRing_length _ h)) (ch := [.it]) (by simp)

theorem applyCriteria_reacts (id : Nat) (k : AcceptedSpark) (c : Bool) (s : State) :
    Reacts [.lp, .vg, .it, .gs, .cc, .sc, .pi, .cm] s (applyCriteria id k c s) := by
  unfold applyCriteria
  split
  · exact Reacts.refl ..
  · exact rise_reacts ..

theorem setQuiet_reacts (id d : Nat) (s : State) : Reacts [.it] s (setQuiet id d s) := by
  unfold setQuiet
  split
  · exact Reacts.refl ..
  · refine updIncident_keeps _ _ _ (fun i => ?_) (fun i => ?_) (hid := fun i => ?_) <;> split <;> rfl

theorem takeSpark_reacts (k : AcceptedSpark) (s : State) (hs : s.it.incidents.length ≤ 16) :
    Reacts [.lp, .vg, .it, .gs, .cc, .sc, .pi, .cm] s (takeSpark k s) := by
  have hp : ∀ p : State × Nat × Bool, p = (match incidentOf s (.duct k.duct) with
      | some i => (s, i.id, false)
      | none =>
        if k.role = .upstream then placeOrigin (.duct k.duct) 1 .firstSpark (some (k.detector, k.t0)) s
        else placeOrigin (.duct k.duct) 2 .confirm (some (k.detector, k.t0)) s) →
      Reacts [.lp, .vg, .it, .gs, .cc, .sc, .pi, .cm] s p.1 := by
    rintro p rfl
    split
    · exact Reacts.refl ..
    · split <;> exact placeOrigin_reacts _ _ _ _ _ hs
  unfold takeSpark
  refine Reacts.then (Reacts.then (Reacts.trans (Reacts.then (hp _ rfl) (recordSpark_reacts ..)) (applyCriteria_reacts ..))
    (setQuiet_reacts ..)) (postNotice_reacts ..)

theorem takeValveFail_reacts (d : Nat) (s : State) :
    Reacts [.lp, .vg, .it, .gs, .cc, .sc, .pi, .cm] s (takeValveFail d s) := by
  unfold takeValveFail
  split
  · exact Reacts.refl ..
  · exact rise_reacts ..

theorem takeGateFail_reacts (d : Nat) (s : State) :
    Reacts [.lp, .vg, .it, .gs, .cc, .sc, .pi, .cm] s (takeGateFail d s) := by
  unfold takeGateFail
  split
  · exact Reacts.refl ..
  · exact rise_reacts ..

theorem takeGateReport_reacts (d : Nat) (r : State × GateReport) :
    Reacts [.lp, .vg, .it, .gs, .cc, .sc, .pi, .cm] r.1 (takeGateReport d r) := by
  unfold takeGateReport
  split
  · exact Reacts.refl ..
  · exact (reportDivert_reacts ..).of
  · refine Reacts.trans ?_ (takeGateFail_reacts ..)
    split
    · exact (reportDivert_reacts ..).of
    · exact Reacts.refl ..

theorem quietRunsOut_reacts (id : Nat) (s : State) :
    Reacts [.lp, .vg, .it, .cc, .sc, .pi, .cm] s (quietRunsOut id s) := by
  unfold quietRunsOut
  split
  · exact Reacts.refl ..
  · refine Reacts.ite (fun _ => ?_) (fun _ => Reacts.refl ..)
    split
    · exact Reacts.ite (fun _ => closeIncident_reacts ..)
        (fun _ => updIncident_keeps _ _ _ (fun _ => rfl) (fun _ => rfl))
    · exact updIncident_keeps _ _ _ (fun _ => rfl) (fun _ => rfl)

theorem unackedRunsOut_reacts (id : Nat) (s : State) :
    Reacts [.lp, .vg, .it, .gs, .cc, .sc, .pi, .cm] s (unackedRunsOut id s) := by
  unfold unackedRunsOut
  split
  · exact Reacts.refl ..
  · exact Reacts.ite (fun _ => rise_reacts ..) (fun _ => Reacts.refl ..)

theorem resoundRunsOut_reacts (id : Nat) (s : State) :
    Reacts [.lp, .it, .sc, .pi, .cm] s (resoundRunsOut id s) := by
  unfold resoundRunsOut
  split
  · exact Reacts.refl ..
  · refine Reacts.ite (fun _ => ?_) (fun _ => Reacts.refl ..)
    refine Reacts.then (Reacts.then ?_ (setSilenced_reacts ..)) (postNotice_reacts ..)
    exact updIncident_keeps _ _ _ (fun _ => rfl) (fun _ => rfl)

theorem ageRing_reacts (d : Nat) (s : State) : Reacts [.it] s (ageRing d s) :=
  updSparks_reacts _ _ _ fun _ h => Nat.le_trans (List.length_filter_le ..) h

theorem holdLastSpark_reacts (d : Nat) (s : State) : Reacts [.it] s (holdLastSpark d s) :=
  it_reacts s _ fun h => mapIncidents_bounds _ (fun _ => rfl) (fun _ h => by simpa using h) (fun _ h => h) h

/-! ## PI and CM (Chapter 9) -/

theorem handValves_reacts (p : Nat) (made : Bool) (s : State) : Reacts [.lp, .vg] s (handValves p made s) :=
  Reacts.foldl (fun _ _ => Reacts.ite (fun _ => pressureChange_reacts ..) (fun _ => Reacts.refl ..)) _ s

theorem handGates_reacts (p : Nat) (made : Bool) (s : State) :
    Reacts [.lp, .vg, .it, .gs, .cc, .sc, .pi, .cm] s (handGates p made s) :=
  Reacts.foldl (fun _ _ => Reacts.ite
    (fun _ => ((positionChange_reacts ..).of).trans (takeGateReport_reacts ..)) (fun _ => Reacts.refl ..)) _ s

theorem handGroups_reacts (p : Nat) (made : Bool) (s : State) : Reacts [.lp, .gs, .pi, .cm] s (handGroups p made s) :=
  Reacts.foldl (fun _ _ => groupInputChange_reacts ..) _ s

theorem handSwitches_reacts (w p : Nat) (made : Bool) (l : List Nat) (n : Nat) (s : State) :
    Reacts [.lp, .cc] s (handSwitches w p made l n s) := by
  induction l generalizing n s with
  | nil => exact Reacts.refl ..
  | cons q r ih =>
    simp only [handSwitches]
    exact (Reacts.ite (fun _ => doorChange_reacts ..) (fun _ => Reacts.refl ..)).trans (ih ..)

theorem handDoors_reacts (p : Nat) (made : Bool) (s : State) : Reacts [.lp, .cc] s (handDoors p made s) :=
  Reacts.foldl (fun _ _ => handSwitches_reacts ..) _ s

theorem handDampers_reacts (p : Nat) (made : Bool) (s : State) : Reacts [.lp, .cc] s (handDampers p made s) :=
  Reacts.foldl (fun _ _ => Reacts.ite (fun _ => damperChange_reacts ..) (fun _ => Reacts.refl ..)) _ s

theorem handChange_reacts (p : Nat) (made : Bool) (s : State) :
    Reacts [.lp, .vg, .it, .gs, .cc, .sc, .pi, .cm] s (handChange p made s) :=
  ((((((handValves_reacts ..).of).trans (handGates_reacts ..)).then (handGroups_reacts ..)).then
    (handDoors_reacts ..)).then (handDampers_reacts ..))

theorem takeLevel_reacts (p : Nat) (made : Bool) (s : State) :
    Reacts [.lp, .vg, .it, .gs, .cc, .sc, .pi, .cm] s (takeLevel p made s) := by
  unfold takeLevel
  have h : Reacts [.lp, .vg, .it, .gs, .cc, .sc, .pi, .cm] s
      (cancelTiming p { s with pi := { s.pi with debounced := Table.put s.pi.debounced p made } }) :=
    (pi_reacts s _).of
  exact Reacts.ite (fun _ => h) (fun _ => h.trans (handChange_reacts ..))

theorem passPoint_reacts (l raw : Levels) (s : State) (p : Nat) :
    Reacts [.lp, .vg, .it, .gs, .cc, .sc, .pi, .cm] s (passPoint l raw s p) := by
  unfold passPoint
  refine Reacts.ite (fun _ => (pi_reacts s _).of) (fun _ => Reacts.ite (fun _ => takeLevel_reacts ..) (fun _ => ?_))
  exact Reacts.ite (fun _ => (pi_reacts s _).of) (fun _ => Reacts.refl ..)

theorem takeLevels_reacts (l : Levels) (s : State) :
    Reacts [.lp, .vg, .it, .gs, .cc, .sc, .pi, .cm] s (takeLevels l s) :=
  ((pi_reacts s _).of).trans (Reacts.foldl (fun _ _ => passPoint_reacts ..) _ _)

theorem debounceRunsOut_reacts (p : Nat) (s : State) :
    Reacts [.lp, .vg, .it, .gs, .cc, .sc, .pi, .cm] s (debounceRunsOut p s) :=
  Reacts.ite (fun _ => takeLevel_reacts ..) (fun _ => Reacts.refl ..)

theorem setChain_reacts (c : Chain) (r : ChainRecord) (s : State) : Reacts [.pi] s (setChain c r s) := by
  cases c <;> exact pi_reacts s _

theorem chainFails_reacts (c : Chain) (s : State) : Reacts [.lp, .pi] s (chainFails c s) := by
  unfold chainFails
  have h : Reacts [.lp, .pi] s _ :=
    (setChain_reacts c { state := .faulted, goodAt := some (s.now + ms Config.chainGoodTime) } s).of
  split
  · exact h
  · refine Reacts.then ?_ (postNotice_reacts ..)
    split
    · exact h
    · exact h.then (pi_reacts ..)

theorem chainRecovers_reacts (c : Chain) (s : State) : Reacts [.lp, .pi] s (chainRecovers c s) :=
  Reacts.ite (fun _ => ((setChain_reacts ..).of).then (postNotice_reacts ..)) (fun _ => Reacts.refl ..)

theorem reportCircuit_reacts (t : TableId) (n : Nat) (c : Circuit) (s : State) :
    Reacts [.lp, .vg, .it, .gs, .cc, .sc, .pi, .cm] s (reportCircuit t n c s) := by
  unfold reportCircuit
  split
  · exact Reacts.mono (updValve_reacts n _ s (fun _ h => h)) (ch := [.vg]) (by simp)
  · exact (holderReport_reacts ..).of
  · exact (sirenReport_reacts ..).of
  · exact Reacts.refl ..

theorem takeSample_reacts (m : Nat) (e : MonitorEntry) (l : Nat) (s : State) :
    Reacts [.lp, .vg, .it, .gs, .cc, .sc, .pi, .cm] s (takeSample m e l s) := by
  unfold takeSample
  split
  · refine Reacts.ite (fun _ => Reacts.refl ..) (fun _ => Reacts.ite (fun _ => (updMonitor_reacts ..).of) (fun _ => ?_))
    exact (((updMonitor_reacts ..).of).then (postNotice_reacts ..)).trans (reportCircuit_reacts ..)
  · exact Reacts.refl ..

theorem blankingRunsOut_reacts (m : Nat) (s : State) : Reacts [.cm] s (blankingRunsOut m s) := updMonitor_reacts ..

end Sys2Proof.Machine
end

