-- ==== Sys2Proof/Laws/ReactsLoop.lean ====
section
/-! SUPPORT. The reactions of LC and of the timers: the blocks each touches, and that each keeps every limit. -/

namespace Sys2Proof.Machine

-- One lemma at a time: each waits for the equations of the definitions it unfolds, and each would hold a thread.
set_option Elab.async false

/-! ## Devices (02 R23, R31) -/

theorem postBlind_reacts (d : Nat) (was : Bool) (s : State) : Reacts [.lp] s (postBlind d was s) :=
  Reacts.ite (fun _ => Reacts.refl ..) (fun _ => postNotice_reacts ..)

theorem setDevice_reacts (a : Nat) (new : DeviceState) (s : State) : Reacts [.lp, .lc] s (setDevice a new s) := by
  unfold setDevice
  split
  · exact Reacts.refl ..
  · refine Reacts.ite (fun _ => Reacts.refl ..) (fun _ => Reacts.ite (fun _ => ?_) (fun _ => ?_))
    · exact (((updDevice_reacts ..).of).then (postNotice_reacts ..)).then (postBlind_reacts ..)
    · exact ((updDevice_reacts ..).of).then (postNotice_reacts ..)

theorem answerState_reacts (a : Nat) (new : DeviceState) (s : State) : Reacts [.lp, .lc] s (answerState a new s) :=
  Reacts.ite (fun _ => Reacts.refl ..) (fun _ => setDevice_reacts ..)

theorem countLoopError_reacts (s : State) : Reacts [.lc] s (countLoopError s) := lc_reacts s _
theorem countForeign_reacts (s : State) : Reacts [.lc] s (countForeign s) := lc_reacts s _
theorem emptySlot_reacts (s : State) : Reacts [.lc] s (emptySlot s) := lc_reacts s _
theorem dropAutoRead_reacts (a : Nat) (s : State) : Reacts [.lc] s (dropAutoRead a s) := lc_reacts s _
theorem closeSlot_reacts (a : Nat) (s : State) : Reacts [.lc] s (closeSlot a s) := lc_reacts s _
theorem sendFrame_reacts (f : LoopFrame) (s : State) : Reacts [.lc] s (sendFrame f s) := lc_reacts s _
theorem sendPoll_reacts (a : Nat) (s : State) : Reacts [.lc] s (sendPoll a s) := lc_reacts s _

/-! ## The command slot (02 R32-R35) -/

theorem autoIssue_reacts (s : State) : Reacts [.lc] s (autoIssue s) := by
  unfold autoIssue
  split
  · exact lc_reacts s _
  · exact Reacts.refl ..

theorem abandonRead_reacts (s : State) : Reacts [.lp, .lc] s (abandonRead s) := by
  unfold abandonRead
  split
  · exact Reacts.ite (fun _ => (emptySlot_reacts s).of) (fun _ => ((emptySlot_reacts s).of).then (postNotice_reacts ..))
  · exact Reacts.refl ..

theorem countTest_reacts (a : Nat) (s : State) : Reacts [.lc] s (countTest a s) := by
  unfold countTest
  split
  · exact Reacts.ite (fun _ => lc_reacts s _) (fun _ => Reacts.refl ..)
  · exact Reacts.refl ..

theorem testRunsOut_reacts (s : State) : Reacts [.lp, .lc] s (testRunsOut s) := by
  unfold testRunsOut
  split
  · exact Reacts.ite (fun _ => (((emptySlot_reacts s).of).then (postNotice_reacts ..)).then (autoIssue_reacts ..))
      (fun _ => Reacts.refl ..)
  · exact Reacts.refl ..

theorem attemptRunsOut_reacts (s : State) : Reacts [.lp, .lc] s (attemptRunsOut s) := by
  unfold attemptRunsOut
  split
  · refine Reacts.ite (fun _ => Reacts.ite (fun _ => (lc_reacts s _).of) (fun _ => ?_)) (fun _ => Reacts.refl ..)
    refine Reacts.then (Reacts.then ?_ (postNotice_reacts ..)) (autoIssue_reacts ..)
    exact Reacts.ite (fun _ => ((emptySlot_reacts s).of).then (dropAutoRead_reacts ..)) (fun _ => (emptySlot_reacts s).of)
  · exact Reacts.refl ..

theorem takeStatus_reacts (a : Nat) (x : DeviceStatus) (s : State) : Reacts [.lp, .lc] s (takeStatus a x s) := by
  unfold takeStatus
  split
  · refine Reacts.ite (fun _ => ?_) (fun _ => Reacts.refl ..)
    exact ((((updDevice_reacts ..).of).then (emptySlot_reacts ..)).then (dropAutoRead_reacts ..)).then (postNotice_reacts ..)
  · exact Reacts.refl ..

/-! ## The loop state (02 R29, R30) -/

theorem loopUp_reacts (s : State) : Reacts [.lp, .lc] s (loopUp s) := ((lc_reacts s _).of).then (postNotice_reacts ..)

theorem loopDown_reacts (s : State) : Reacts [.lp, .lc] s (loopDown s) :=
  (((lc_reacts s _).of).then (postNotice_reacts ..)).then (abandonRead_reacts ..)

theorem goodFrame_reacts (s : State) : Reacts [.lp, .lc] s (goodFrame s) := by
  unfold goodFrame
  split
  · exact Reacts.refl ..
  · exact (lc_reacts s _).of
  · exact loopUp_reacts s

theorem silenceRunsOut_reacts (s : State) : Reacts [.lp, .lc] s (silenceRunsOut s) :=
  Reacts.ite (fun _ => loopDown_reacts ..) (fun _ => Reacts.refl ..)

theorem overcurrent_reacts (s : State) : Reacts [.lp, .lc] s (overcurrent s) := by
  unfold overcurrent
  have h : Reacts [.lp, .lc] s { s with lc := { s.lc with powered := false, answerSlot := none } } := (lc_reacts s _).of
  dsimp only
  split
  · exact Reacts.refl ..
  · exact h.trans (loopDown_reacts ..)
  · exact h

theorem retryRunsOut_reacts (s : State) : Reacts [.lc] s (retryRunsOut s) :=
  Reacts.ite (fun _ => lc_reacts s _) (fun _ => Reacts.refl ..)

theorem chooseFrame_reacts (s : State) : Reacts [.lc] s (chooseFrame s) := by
  unfold chooseFrame
  refine Reacts.ite (fun _ => Reacts.refl ..) (fun _ => ?_)
  split
  · exact sendPoll_reacts ..
  · split
    · exact lc_reacts s _
    · split
      · exact lc_reacts s _
      · split
        · exact sendPoll_reacts ..
        · exact Reacts.refl ..

theorem pollFallsDue_reacts (a : Nat) (s : State) : Reacts [.lc] s (pollFallsDue a s) :=
  Reacts.ite (fun _ => updDevice_reacts ..) (fun _ => Reacts.refl ..)

/-! ## Poll answers and reports (02 R23-R28; 10 R168) -/

theorem takeMiss_reacts (a : Nat) (s : State) : Reacts [.lp, .lc] s (takeMiss a s) := by
  unfold takeMiss
  exact Reacts.ite (fun _ => ((updDevice_reacts ..).of).trans (answerState_reacts ..)) (fun _ => (updDevice_reacts ..).of)

theorem takeSpoiled_reacts (x : Option Nat) (s : State) : Reacts [.lp, .lc] s (takeSpoiled x s) := by
  unfold takeSpoiled
  split
  · exact Reacts.refl ..
  · split
    · exact (((countLoopError_reacts s).of).then (closeSlot_reacts ..)).trans (takeMiss_reacts ..)
    · exact (countLoopError_reacts s).of

theorem pollAnswered_reacts (a : Nat) (new : DeviceState) (f : Device → Device) (s : State) :
    Reacts [.lp, .lc] s (pollAnswered a new f s) :=
  ((((closeSlot_reacts a s).of).trans (goodFrame_reacts ..)).then (updDevice_reacts ..)).trans (answerState_reacts ..)

theorem takeDetectorAnswer_reacts (a : Nat) (f : PollFlags) (s : State) :
    Reacts [.lp, .lc] s (takeDetectorAnswer a f s) := by
  unfold takeDetectorAnswer
  split
  · exact Reacts.refl ..
  · exact Reacts.refl ..
  · split
    · exact takeSpoiled_reacts ..
    · refine Reacts.then ?_ (autoIssue_reacts ..)
      exact Reacts.ite (fun _ => (pollAnswered_reacts ..).then (lc_reacts ..)) (fun _ => pollAnswered_reacts ..)

theorem takeFlowAnswer_reacts (a raw : Nat) (s : State) : Reacts [.lp, .lc, .tc] s (takeFlowAnswer a raw s) := by
  unfold takeFlowAnswer
  split
  · exact Reacts.refl ..
  · exact Reacts.refl ..
  · split
    · exact (takeSpoiled_reacts ..).of
    · exact Reacts.ite (fun _ => (((pollAnswered_reacts ..).of).then (autoIssue_reacts ..)).then (takeReading_reacts ..))
        (fun _ => ((pollAnswered_reacts ..).of).then (autoIssue_reacts ..))

theorem takeWalkSpark_reacts (d a : Nat) (r : Role) (k : ReportKind) (t : PartTime) (s : State) :
    Reacts [.lp, .lc] s (takeWalkSpark d a r k t s) := ((updWalk_reacts ..).of).then (postNotice_reacts ..)

theorem acceptReport_reacts (d a : Nat) (r : Role) (k : ReportKind) (t : PartTime) (s : State)
    (hs : s.it.incidents.length ≤ 16) :
    Reacts [.lp, .tc, .vg, .it, .gs, .cc, .sc, .pi, .cm] s (acceptReport d a r k t s) := by
  unfold acceptReport
  cases r
  · have h := takeTransit_reacts d a t s
    refine (h.of).then (takeSpark_reacts _ _ ?_)
    rw [h.frame.it (by simp)]; exact hs
  · exact (takeSpark_reacts _ _ hs).of

theorem disposeReport_reacts (a : Nat) (r : Device) (role : Role) (k : ReportKind) (t : PartTime) (s : State)
    (hs : s.it.incidents.length ≤ 16) :
    Reacts [.lp, .lc, .tc, .vg, .it, .gs, .cc, .sc, .pi, .cm] s (disposeReport a r role k t s) := by
  unfold disposeReport
  refine Reacts.ite (fun _ => (countTest_reacts ..).of) (fun _ => Reacts.ite (fun _ => (updDevice_reacts ..).of) (fun _ => ?_))
  exact Reacts.ite (fun _ => (takeWalkSpark_reacts ..).of) (fun _ => (acceptReport_reacts _ _ _ _ _ _ hs).of)

theorem compareReport_reacts (a : Nat) (g : Bool) (k : ReportKind) (t : PartTime) (s : State)
    (hs : s.it.incidents.length ≤ 16) :
    Reacts [.lp, .lc, .tc, .vg, .it, .gs, .cc, .sc, .pi, .cm] s (compareReport a g k t s) := by
  unfold compareReport
  split
  · exact Reacts.ite (fun _ => (countTest_reacts ..).of) (fun _ => (countForeign_reacts s).of)
  · split
    · exact (countForeign_reacts s).of
    · exact Reacts.ite (fun _ => Reacts.refl ..)
        (fun _ => ((updDevice_reacts ..).of).trans (disposeReport_reacts _ _ _ _ _ _ hs))

theorem takeReport_reacts (a : Nat) (g : Bool) (k : BitVec 2) (age : Nat) (s : State)
    (hs : s.it.incidents.length ≤ 16) :
    Reacts [.lp, .lc, .tc, .vg, .it, .gs, .cc, .sc, .pi, .cm] s (takeReport a g k age s) := by
  unfold takeReport
  split
  · exact Reacts.refl ..
  · exact (takeSpoiled_reacts ..).of
  · have h := goodFrame_reacts s
    refine Reacts.then (Reacts.trans (Reacts.trans (t := goodFrame s) h.of (lc_reacts ..).of)
      (compareReport_reacts _ _ _ _ _ ?_)) (autoIssue_reacts ..)
    show (goodFrame s).it.incidents.length ≤ 16
    rw [h.frame.it (by simp)]; exact hs

theorem takeStatusAnswer_reacts (a : Nat) (f : BitVec 8) (n : Nat) (s : State) :
    Reacts [.lp, .lc] s (takeStatusAnswer a f n s) := by
  unfold takeStatusAnswer
  split
  · exact Reacts.refl ..
  · exact Reacts.ite (fun _ => takeSpoiled_reacts ..)
      (fun _ => ((goodFrame_reacts s).trans (takeStatus_reacts ..)).then (autoIssue_reacts ..))

theorem endWalk_reacts (d : Nat) (b : Bool) (s : State) : Reacts [.lp, .lc] s (endWalk d b s) := by
  unfold endWalk
  split
  · exact Reacts.refl ..
  · exact ((updWalk_reacts ..).of).then (postNotice_reacts ..)

theorem walkRunsOut_reacts (d : Nat) (s : State) : Reacts [.lp, .lc] s (walkRunsOut d s) := by
  unfold walkRunsOut
  split
  · exact Reacts.refl ..
  · exact Reacts.ite (fun _ => endWalk_reacts ..) (fun _ => Reacts.refl ..)

/-! ## The timers of VG, CC and SC -/

theorem openRunsOut_reacts (d : Nat) (s : State) : Reacts [.lp, .vg, .pi, .cm] s (openRunsOut d s) := by
  unfold openRunsOut
  split
  · exact Reacts.refl ..
  · exact Reacts.ite (fun _ => openHead_reacts ..) (fun _ => Reacts.refl ..)

theorem settleRunsOut_reacts (d : Nat) (s : State) :
    Reacts [.lp, .vg, .it, .gs, .cc, .sc, .pi, .cm] s (settleRunsOut d s) := by
  unfold settleRunsOut
  split
  · exact Reacts.refl ..
  · rename_i v _
    refine Reacts.ite (fun _ => ?_) (fun _ => Reacts.refl ..)
    have h : Reacts [.lp, .vg, .it, .gs, .cc, .sc, .pi, .cm] s (updValve d (fun v => { v with
        settleExpiry := none, settleRan := true, flowed := false, failed := true }) s) :=
      Reacts.mono (updValve_reacts d _ s (fun _ h => h)) (ch := [.vg]) (by simp)
    refine Reacts.ite (fun _ => h) (fun _ => ?_)
    refine Reacts.trans (h.trans (takeValveFail_reacts d _)) ?_
    unfold noticeValveFail
    split
    · exact Reacts.refl ..
    · exact (postNotice_reacts ..).of

theorem closeRunsOut_reacts (d : Nat) (s : State) : Reacts [.lp, .vg, .pi, .cm] s (closeRunsOut d s) := by
  unfold closeRunsOut
  split
  · exact Reacts.refl ..
  · exact Reacts.ite (fun _ => closeHead_reacts ..) (fun _ => Reacts.refl ..)

theorem gateRunsOut_reacts (d : Nat) (s : State) :
    Reacts [.lp, .vg, .it, .gs, .cc, .sc, .pi, .cm] s (gateRunsOut d s) := by
  unfold gateRunsOut
  split
  · exact Reacts.refl ..
  · exact Reacts.ite (fun _ => ((travelRunsOut_reacts ..).of).trans (takeGateReport_reacts ..)) (fun _ => Reacts.refl ..)

theorem warningRunsOut_reacts (w : Nat) (s : State) :
    Reacts [.lp, .it, .gs, .cc, .pi, .cm] s (warningRunsOut w s) := by
  unfold warningRunsOut
  split
  · exact Reacts.refl ..
  · exact Reacts.ite (fun _ => enterReleased_reacts ..) (fun _ => Reacts.refl ..)

theorem cadenceRunsOut_reacts (n : Nat) (s : State) : Reacts [.sc, .pi, .cm] s (cadenceRunsOut n s) := by
  unfold cadenceRunsOut
  split
  · exact Reacts.refl ..
  · split
    · exact Reacts.refl ..
    · exact Reacts.ite (fun _ => ((updSiren_reacts ..).of).then (driveSiren_reacts ..)) (fun _ => Reacts.refl ..)

theorem advanceClock_reacts (s : State) : Reacts [.lp, .sc, .pi, .cm] s (advanceClock s) := by
  unfold advanceClock
  have h : ∀ x : SirenController, Reacts [.lp, .sc, .pi, .cm] s { s with sc := x } := fun x => (sc_reacts s x).of
  exact Reacts.ite (fun _ => Reacts.ite (fun _ => (h _).trans (judgeSchedule_reacts ..)) (fun _ => h _))
    (fun _ => Reacts.refl ..)

theorem testExpires_reacts (s : State) : Reacts [.lp, .sc, .pi, .cm] s (testExpires s) := by
  unfold testExpires
  split
  · exact Reacts.refl ..
  · exact Reacts.ite (fun _ => completeTest_reacts s) (fun _ => Reacts.refl ..)

end Sys2Proof.Machine
end

