-- ==== Sys2Proof/Laws/ReactsRequests.lean ====
section
/-! SUPPORT. What the judgement of each request may touch, and that it keeps every limit; the requests of the link
session that write LP's own record have a lemma each of their own form. -/

namespace Sys2Proof.Machine

-- One lemma at a time: each waits for the equations of the definitions it unfolds, and each would hold a thread.
set_option Elab.async false

/-- A judgement after its body has been read: every judgement on the operand is one that reacts. -/
theorem withBody_reacts {α : Type} {ch : List Block} {r : Except FieldError α} {j : α → State → Judged} {s : State}
    (h : ∀ x, r = .ok x → Reacts ch s (j x s).2) : Reacts ch s (withBody r j s).2 := by
  unfold withBody
  split
  · exact h _ rfl
  · exact Reacts.refl ..

/-! ## Incidents (Chapters 5 and 8) -/

theorem judgeAck_reacts (b : List Byte) (s : State) : Reacts [.lp, .it] s (judgeAck b s).2 := by
  refine withBody_reacts fun id _ => ?_
  split
  · exact Reacts.refl ..
  · split
    · exact Reacts.refl ..
    · refine Reacts.then ?_ (postNotice_reacts ..)
      exact updIncident_keeps _ _ _ (fun _ => rfl) (fun _ => rfl)

theorem judgeSilence_reacts (b : List Byte) (s : State) : Reacts [.lp, .it, .sc, .pi, .cm] s (judgeSilence b s).2 := by
  refine withBody_reacts fun x _ => ?_
  split
  · exact Reacts.refl ..
  · split
    · exact Reacts.refl ..
    · split
      · exact Reacts.refl ..
      · refine Reacts.then ?_ (postNotice_reacts ..)
        exact ((setSilenced_reacts ..).of).trans (updIncident_keeps _ _ _ (fun _ => rfl) (fun _ => rfl))

theorem judgeResetIncident_reacts (b : List Byte) (s : State) :
    Reacts [.lp, .vg, .it, .cc, .sc, .pi, .cm] s (judgeResetIncident b s).2 := by
  refine withBody_reacts fun id _ => ?_
  split
  · exact Reacts.refl ..
  · split
    · exact Reacts.refl ..
    · split
      · exact Reacts.refl ..
      · exact Reacts.refl ..
      · exact closeIncident_reacts ..

theorem judgeManualAlarm_reacts (b : List Byte) (s : State) (hs : s.it.incidents.length ≤ 16) :
    Reacts [.lp, .vg, .it, .gs, .cc, .sc, .pi, .cm] s (judgeManualAlarm b s).2 := by
  refine withBody_reacts fun c _ => ?_
  split
  · exact Reacts.refl ..
  · split
    · exact rise_reacts ..
    · have h := placeOrigin_reacts (.compartment c) 3 .manual none s hs
      exact Reacts.ite (fun _ => h) (fun _ => h.trans (rise_reacts ..))

theorem judgeTestSirens_reacts (b : List Byte) (s : State) : Reacts [.lp, .sc, .pi, .cm] s (judgeTestSirens b s).2 := by
  refine withBody_reacts fun _ _ => ?_
  split
  · exact Reacts.refl ..
  · split
    · exact Reacts.refl ..
    · exact startTest_reacts ..

/-! ## Plant items (Chapters 4, 6, 7, 9) -/

theorem judgeRestartGroup_reacts (b : List Byte) (s : State) :
    Reacts [.lp, .vg, .gs, .pi, .cm] s (judgeRestartGroup b s).2 := by
  refine withBody_reacts fun g _ => ?_
  split
  · split
    · exact Reacts.refl ..
    · split
      · exact Reacts.refl ..
      · split
        · exact Reacts.refl ..
        · exact Reacts.refl ..
        · exact beginRestart_reacts ..
  · exact Reacts.refl ..

theorem judgeStopGroup_reacts (b : List Byte) (s : State) : Reacts [.lp, .gs, .pi, .cm] s (judgeStopGroup b s).2 := by
  refine withBody_reacts fun g _ => ?_
  split
  · exact Reacts.refl ..
  · dsimp only
    split <;> exact shutdownDemand_reacts ..

theorem judgeReleaseWall_reacts (b : List Byte) (s : State) :
    Reacts [.lp, .it, .gs, .cc, .pi, .cm] s (judgeReleaseWall b s).2 := by
  refine withBody_reacts fun w _ => ?_
  split
  · exact Reacts.refl ..
  · split
    · exact (updWall_reacts ..).of
    · exact ((updWall_reacts ..).of).trans (releaseByState_reacts ..)

theorem reholdWall_reacts (w : Nat) (r : Wall) (e : WallEntry) (s : State) :
    Reacts [.lp, .cc, .pi, .cm] s (reholdWall w r e s) := by
  unfold reholdWall
  split
  · exact Reacts.refl ..
  · exact ((updWall_reacts ..).of).trans (cancelWarning_reacts ..)
  · exact reholdReleased_reacts ..

theorem judgeReholdWall_reacts (b : List Byte) (s : State) : Reacts [.lp, .cc, .pi, .cm] s (judgeReholdWall b s).2 := by
  refine withBody_reacts fun w _ => ?_
  split
  · split
    · exact Reacts.refl ..
    · split
      · exact Reacts.refl ..
      · split
        · exact Reacts.refl ..
        · exact reholdWall_reacts ..
  · exact Reacts.refl ..

theorem judgeClearValveFail_reacts (b : List Byte) (s : State) : Reacts [.lp, .vg] s (judgeClearValveFail b s).2 := by
  refine withBody_reacts fun d _ => ?_
  split
  · split
    · unfold accept clearValveFail
      have h : Reacts [.lp, .vg] s (postNotice .state (.valveRestored d) (updValve d (fun v => { v with failed := false }) s)) := by
        refine Reacts.then ?_ (postNotice_reacts ..)
        exact Reacts.mono (updValve_reacts d _ s (fun _ h => h)) (ch := [.vg]) (by simp)
      refine Reacts.ite (fun _ => h.trans ?_) (fun _ => h)
      exact Reacts.mono (updValve_reacts d _ _ (fun _ h => h)) (ch := [.vg]) (by simp)
    · exact Reacts.refl ..
  · exact Reacts.refl ..

theorem judgeDrivePoint_reacts (b : List Byte) (s : State) : Reacts [.pi, .cm] s (judgeDrivePoint b s).2 := by
  refine withBody_reacts fun x _ => ?_
  split
  · exact Reacts.refl ..
  · split
    · exact writeOut_reacts ..
    · split
      · exact writeOut_reacts ..
      · exact Reacts.refl ..
    · exact Reacts.refl ..

/-! ## Maintenance (Chapters 2 and 10) -/

theorem isolateElement_reacts (k : ElementKind) (n : Nat) (s : State) :
    Reacts [.lp, .lc, .vg, .gs, .cc, .sc, .pi, .cm] s (isolateElement k n s) := by
  cases k
  · exact (setDevice_reacts ..).of
  · refine Reacts.then ?_ (postNotice_reacts ..)
    exact Reacts.mono (updValve_reacts n _ s (fun _ h => h)) (ch := [.vg]) (by simp)
  · exact ((updGate_reacts ..).of).then (postNotice_reacts ..)
  · exact ((updWall_reacts ..).of).then (postNotice_reacts ..)
  · exact ((isolateSiren_reacts ..).of).then (postNotice_reacts ..)
  · exact ((updGroup_reacts ..).of).then (postNotice_reacts ..)

theorem judgeGate_reacts (d : Nat) (s : State) : Reacts [.lp, .vg] s (judgeGate d s) := by
  unfold judgeGate
  split
  · exact Reacts.refl ..
  · exact Reacts.ite (fun _ => setGateState_reacts ..) (fun _ => Reacts.refl ..)

theorem judgeWall_reacts (w : Nat) (s : State) : Reacts [.lp, .it, .gs, .cc, .pi, .cm] s (judgeWall w s) := by
  unfold judgeWall
  split
  · refine Reacts.ite (fun _ => circuitRelease_reacts ..) (fun _ => Reacts.ite (fun _ => ?_) (fun _ => Reacts.refl ..))
    exact ((updWall_reacts ..).of).trans (releaseByState_reacts ..)
  · exact Reacts.refl ..

theorem judgeGroup_reacts (g : Nat) (s : State) : Reacts [.lp, .gs, .pi, .cm] s (judgeGroup g s) := by
  unfold judgeGroup
  have h : Reacts [.lp, .gs, .pi, .cm] s (if (groupOnFire s g).isSome || crossesReleased s g
      then (shutdownDemand g .normal .restore s).1 else s) :=
    Reacts.ite (fun _ => shutdownDemand_reacts ..) (fun _ => Reacts.refl ..)
  dsimp only
  split
  · exact Reacts.ite (fun _ => h.trans (fanTrips_reacts ..)) (fun _ => h)
  · exact h

theorem restoreElement_reacts (k : ElementKind) (n : Nat) (s : State) :
    Reacts [.lp, .lc, .vg, .it, .gs, .cc, .sc, .pi, .cm] s (restoreElement k n s) := by
  cases k
  · exact (setDevice_reacts ..).of
  · refine Reacts.then ?_ (postNotice_reacts ..)
    exact Reacts.mono (updValve_reacts n _ s (fun _ h => h)) (ch := [.vg]) (by simp)
  · exact (((updGate_reacts ..).of).then (postNotice_reacts ..)).then (judgeGate_reacts ..)
  · exact (((updWall_reacts ..).of).then (postNotice_reacts ..)).then (judgeWall_reacts ..)
  · exact ((restoreSiren_reacts ..).of).then (postNotice_reacts ..)
  · exact (((updGroup_reacts ..).of).then (postNotice_reacts ..)).then (judgeGroup_reacts ..)

theorem judgeIsolate_reacts (b : List Byte) (s : State) :
    Reacts [.lp, .lc, .vg, .gs, .cc, .sc, .pi, .cm] s (judgeIsolate b s).2 := by
  refine withBody_reacts fun x _ => ?_
  split
  · exact Reacts.refl ..
  · split
    · exact Reacts.refl ..
    · exact Reacts.ite (fun _ => Reacts.refl ..) (fun _ => isolateElement_reacts ..)

theorem judgeRestore_reacts (b : List Byte) (s : State) :
    Reacts [.lp, .lc, .vg, .it, .gs, .cc, .sc, .pi, .cm] s (judgeRestore b s).2 := by
  refine withBody_reacts fun x _ => ?_
  split
  · exact Reacts.refl ..
  · exact Reacts.ite (fun _ => restoreElement_reacts ..) (fun _ => Reacts.refl ..)

theorem judgeWalkStart_reacts (b : List Byte) (s : State) : Reacts [.lc] s (judgeWalkStart b s).2 := by
  refine withBody_reacts fun x _ => ?_
  split
  · exact Reacts.refl ..
  · split
    · exact Reacts.refl ..
    · split
      · exact Reacts.refl ..
      · split
        · exact Reacts.refl ..
        · exact updWalk_reacts ..

theorem judgeWalkEnd_reacts (b : List Byte) (s : State) : Reacts [.lp, .lc] s (judgeWalkEnd b s).2 := by
  refine withBody_reacts fun d _ => ?_
  split
  · exact Reacts.refl ..
  · split
    · exact endWalk_reacts ..
    · exact Reacts.refl ..

theorem judgeDetectorTest_reacts (b : List Byte) (s : State) : Reacts [.lc] s (judgeDetectorTest b s).2 := by
  refine withBody_reacts fun x _ => ?_
  repeat' split
  all_goals first | exact Reacts.refl .. | exact lc_reacts s _

theorem judgeReadDetector_reacts (b : List Byte) (s : State) : Reacts [.lc] s (judgeReadDetector b s).2 := by
  refine withBody_reacts fun a _ => ?_
  repeat' split
  all_goals first | exact Reacts.refl .. | exact lc_reacts s _

/-! ## Queries and the link session (Chapters 3 to 8, 11) -/

theorem judgeQueryDuct_reacts (b : List Byte) (s : State) : Reacts [.it] s (judgeQueryDuct b s).2 := by
  refine withBody_reacts fun x _ => ?_
  split
  · exact Reacts.refl ..
  · exact Reacts.ite (fun _ => updSparks_reacts _ _ _ (fun _ h => h)) (fun _ => Reacts.refl ..)

theorem judgeSetClock_reacts (b : List Byte) (s : State) : Reacts [.sc] s (judgeSetClock b s).2 := by
  refine withBody_reacts fun t _ => ?_
  split
  · exact Reacts.refl ..
  · exact sc_reacts s _

/-- The queries other than QUERY-DUCT leave the state as it is. -/
theorem queries_change_nothing (k : ReqKind) (hk : k ∈ [ReqKind.queryValve, .queryIncident, .queryGroup, .queryWall,
    .querySiren, .queryLoop, .queryLink]) (b : List Byte) (s : State) : (judgeOf k b s).2 = s := by
  simp only [List.mem_cons, List.not_mem_nil, or_false] at hk
  rcases hk with rfl | rfl | rfl | rfl | rfl | rfl | rfl
  all_goals
    simp only [judgeOf, judgeQueryValve, judgeQueryIncident, judgeQueryGroup, judgeQueryWall, judgeQuerySiren,
      judgeQueryLoop, judgeQueryLink, withBody, noSuch, badField, refuse, accept]
    repeat' split
    all_goals rfl

/-! ## Taking a request (11 R171, R172, R180) -/

theorem hostFound_bounds {s : State} (h : Bounds s) : Bounds (hostFound s) := by
  unfold hostFound
  split
  · exact h
  · exact (postNotice_reacts ..).bounds ⟨h.notices, h.replies, h.incidents, h.ids, h.merged, h.actions, h.rings, h.windows⟩

theorem takeValidFrame_bounds {s : State} (h : Bounds s) : Bounds (takeValidFrame s) := by
  have k : Bounds (hostFound (setReceiver .hunting s)) :=
    hostFound_bounds ⟨h.notices, h.replies, h.incidents, h.ids, h.merged, h.actions, h.rings, h.windows⟩
  exact ⟨k.notices, k.replies, k.incidents, k.ids, k.merged, k.actions, k.rings, k.windows⟩

/-- A request keeps every limit when its judgement does and leaves the reply queue to LP. -/
theorem takeRequest_bounds {c t : Byte} {j : State → Judged} {s : State} (h : Bounds s)
    (hj : ∀ u, Bounds u → Bounds (j u).2 ∧ (j u).2.lp.replies = u.lp.replies) : Bounds (takeRequest c t j s) := by
  have h1 := takeValidFrame_bounds h
  unfold takeRequest Config.replyLimit
  dsimp only
  split
  · exact ⟨h1.notices, h1.replies, h1.incidents, h1.ids, h1.merged, h1.actions, h1.rings, h1.windows⟩
  · rename_i hr
    obtain ⟨h2, e⟩ := hj _ h1
    refine ⟨h2.notices, ?_, h2.incidents, h2.ids, h2.merged, h2.actions, h2.rings, h2.windows⟩
    show ((j (takeValidFrame s)).2.lp.replies ++ [_]).length ≤ 4
    rw [e]; simp; omega

end Sys2Proof.Machine
end

