-- ==== Sys2Proof/Laws/Sets.lean ====
section
/-! SUPPORT. The sets of the blocks, said once: a set kept as a rising list (02 R33, R35; 10 R167), a siren's demand set (08
R136, R139, R143), and how long a table grows (01 R2). -/

namespace Sys2Proof.Machine

/-! ## Rising lists -/

@[simp] theorem mem_insertNat {a n : Nat} {l : List Nat} : a ∈ insertNat n l ↔ a = n ∨ a ∈ l := by
  induction l with
  | nil => simp [insertNat]
  | cons x r ih =>
    simp only [insertNat]
    split
    · simp
    · split
      · rename_i h; subst h; simp
      · simp only [List.mem_cons, ih]; exact or_left_comm

/-- Adding a member keeps the order, each member once. -/
theorem insertNat_rises (n : Nat) {l : List Nat} (h : l.Pairwise (· < ·)) : (insertNat n l).Pairwise (· < ·) := by
  induction l with
  | nil => simp [insertNat]
  | cons x r ih =>
    obtain ⟨hx, hr⟩ := List.pairwise_cons.1 h
    simp only [insertNat]
    split
    · rename_i hn
      refine List.pairwise_cons.2 ⟨fun a ha => ?_, h⟩
      rcases List.mem_cons.1 ha with rfl | ha
      · exact hn
      · exact Nat.lt_trans hn (hx a ha)
    · split
      · exact h
      · refine List.pairwise_cons.2 ⟨fun a ha => ?_, ih hr⟩
        rcases mem_insertNat.1 ha with rfl | ha
        · omega
        · exact hx a ha

/-- A rising list of numbers of a range is no longer than the range. -/
theorem rising_length {low high : Nat} {l : List Nat} (h : l.Pairwise (· < ·)) (hl : ∀ a ∈ l, low ≤ a ∧ a ≤ high) :
    l.length ≤ high + 1 - low := by
  induction l generalizing low with
  | nil => exact Nat.zero_le _
  | cons x r ih =>
    obtain ⟨hx, hr⟩ := List.pairwise_cons.1 h
    have := hl x (List.mem_cons_self ..)
    have := ih (low := x + 1) hr fun a ha => ⟨hx a ha, (hl a (List.mem_cons_of_mem _ ha)).2⟩
    simp only [List.length_cons]
    omega

/-! ## A siren's demand set -/

/-- The incidents of the demands after one is added at its place: the old ones and its own. -/
theorem insertDemand_perm (order : List Nat) (d : Demand) (l : List Demand) : (insertDemand order d l).Perm (d :: l) := by
  induction l with
  | nil => exact .refl _
  | cons x r ih =>
    simp only [insertDemand]
    split
    · exact .refl _
    · exact (ih.cons x).trans (.swap d x r)

/-- A siren that takes a demand of an incident still holds one demand of each incident, and of no other than it did but
that one (08 R136, R139). -/
theorem takeSirenDemand_incidents (order : List Nat) (id : Nat) (evacuate silenced : Bool) (r : Siren)
    (h : (r.demands.map fun d => d.incident).Nodup) :
    ((takeSirenDemand order id evacuate silenced r).demands.map fun d => d.incident).Nodup ∧
    ∀ d ∈ (takeSirenDemand order id evacuate silenced r).demands, d.incident = id ∨ ∃ x ∈ r.demands, x.incident = d.incident := by
  unfold takeSirenDemand
  split
  · exact ⟨h, fun d hd => .inr ⟨d, hd, rfl⟩⟩
  · split
    · have hm : ∀ d : Demand, (if d.incident = id then { d with evacuate := d.evacuate || evacuate } else d).incident =
          d.incident := by intro d; split <;> rfl
      refine ⟨by simpa [hm, Function.comp_def] using h, fun d hd => ?_⟩
      obtain ⟨x, hx, rfl⟩ := List.mem_map.1 hd
      exact .inr ⟨x, hx, (hm x).symm⟩
    · rename_i hn
      have p := insertDemand_perm order { incident := id, evacuate := evacuate, silenced := silenced } r.demands
      refine ⟨(p.map _).nodup_iff.2 (List.nodup_cons.2 ⟨fun hm => hn ?_, h⟩), fun d hd => ?_⟩
      · obtain ⟨x, hx, hi⟩ := List.mem_map.1 hm
        exact List.any_eq_true.2 ⟨x, hx, decide_eq_true hi⟩
      · rcases List.mem_cons.1 (p.mem_iff.1 hd) with rfl | hd
        · exact .inl rfl
        · exact .inr ⟨d, hd, rfl⟩

/-- The demands a siren is given at its restore are of incidents held, one each (08 R143). -/
theorem demandsHeld_incidents (s : State) (sector : Nat) :
    ((demandsHeld s sector).map fun d => d.incident).Sublist (s.it.incidents.map fun i => i.id) := by
  unfold demandsHeld
  induction s.it.incidents with
  | nil => exact .slnil
  | cons i r ih =>
    simp only [List.filterMap_cons, List.map_cons]
    split
    · exact ih.cons _
    · rename_i d hd
      split at hd
      · cases hd; exact ih.cons_cons _
      · cases hd

/-! ## The length of a table -/

/-- Making an entry present lengthens a table by one just when the entry was absent. -/
theorem Table.put_length {α : Type} (t : Table α) (k : Nat) (v : α) (h : Table.wf t = true) :
    (Table.put t k v).length = if (Table.get t k).isSome then t.length else t.length + 1 := by
  induction t with
  | nil => rfl
  | cons p r ih =>
    obtain ⟨j, w⟩ := p
    simp only [Table.wf, Bool.and_eq_true, List.all_eq_true, decide_eq_true_eq] at h
    have none_below : ∀ {u : Table α}, (∀ x ∈ u, k < x.1) → Table.get u k = none := by
      intro u hu
      induction u with
      | nil => rfl
      | cons x y ihy =>
        have := hu x (List.mem_cons_self ..)
        obtain ⟨a, b⟩ := x
        simp only [Table.get, if_neg (Nat.ne_of_gt this)]
        exact ihy fun x hx => hu x (List.mem_cons_of_mem _ hx)
    simp only [Table.put]
    split
    · rename_i hk
      have : Table.get ((j, w) :: r) k = none := none_below fun x hx => by
        rcases List.mem_cons.1 hx with rfl | hx
        · exact hk
        · exact Nat.lt_trans hk (h.1 x hx)
      simp [this]
    · split
      · rename_i hk; subst hk; simp [Table.get]
      · rename_i hk
        simp only [List.length_cons, ih h.2, Table.get, if_neg (Ne.symm hk)]
        split <;> rfl

end Sys2Proof.Machine
end

