-- ==== Sys2Proof/Tests/Slice0.lean ====
section
/-! SUPPORT. The model's own tests: the well-formedness smoke test, single steps against the spec's tables and worked
figures, and for each statement a state and operands that meet its hypotheses. -/

namespace Sys2Proof.Tests

-- One theorem at a time: each waits in the kernel, and each waiting theorem would hold a thread and its stack.
set_option Elab.async false

open Sys2Proof.Machine

/-! ## A small mill -/

/-- A duct of group 0 in compartment 0, with a gate and a crossing of wall 0. -/
def duct0 : DuctEntry :=
  { group := 0, compartment := 0, infeedOut := 1, gatePresent := true, flowAddr := 10, vMin := 1000, vMax := 3000,
    tolerance := 10, shift := 2, staleTime := 1000, wMax := 5000, quiet := 10000, n1 := 2, s1 := 5000, n2 := 3,
    s2 := 5000, escalation := 60, crossings := [0] }

def valve0 : ValveEntry :=
  { output := 2, pressureIn := 0, lead := 100, afterRun := 500, settle := 200, minOff := 100, monitor := some 0 }

def gate0 : GateEntry := { output := 3, positionIn := 1, travel := 1000 }

def group0 : GroupEntry :=
  { fanOut := 4, fanIn := 2, fanTimeout := 10, aux := [{ output := 9, feedback := none }],
    shutdown := [.infeed false, .pause 5, .fan false], restart := [.fan true, .infeed true] }

def wall0 : WallEntry :=
  { compA := 0, compB := some 1, warning := 5, holderOut := 5, beaconOut := 6, monitor := some 1, doorTime := 10,
    damperTime := 10, doors := [3] }

def crossing0 : CrossingEntry := { duct := 0, wall := 0, holdOut := 7, closedIn := 4 }

def monitor0 : MonitorEntry :=
  { channel := 0, offLow := 100, offHigh := 200, onLow := 400, onHigh := 600, filter := 2, blanking := 50 }

/-- A model that passes every check of COMMIT. -/
def lab : MillModel :=
  { ducts := [(0, duct0)]
    detectors := [(0, { addr := 1, duct := 0, role := .upstream, dist := some 300, gateDist := some 600 }),
                  (1, { addr := 2, duct := 0, role := .downstream, dist := none, gateDist := some 300 })]
    flows := [(0, { addr := 10, duct := 0, period := 100 })]
    valves := [(0, valve0)], gates := [(0, gate0)], groups := [(0, group0)]
    compartments := [(0, { spanStart := 14, spanEnd := 1, margin := 1 }), (1, { spanStart := 4, spanEnd := 5, margin := 0 })]
    walls := [(0, wall0)], crossings := [(0, crossing0)]
    sirens := [(0, { sector := 0, output := 8, monitor := some 2 })]
    patterns := [(0, { onTime := 500, offTime := 500 }), (1, { onTime := 1000, offTime := 0 }),
                 (2, { onTime := 200, offTime := 800 })]
    plan := some { weekdays := 0x7F#7, hour := 8, minute := 0, duration := 20, enabled := true }
    monitors := [(0, monitor0), (1, { monitor0 with channel := 1 }), (2, { monitor0 with channel := 2 })]
    debounce := [(5, 20)] }

def device0 : Device :=
  { kind := .detector .upstream, duct := 0, state := .normal, misses := 0, flags := none, toggle := none, status := none,
    withheld := 0, period := 500, pollAt := 5100#32, pollDue := false }

def flow0 : Device := { device0 with kind := .flow, period := 100, pollAt := 5050#32 }

def valveRun : Valve :=
  { state := .idle, failed := false, circuit := false, isolated := false, queue := [], flowed := false,
    settleRan := false, openExpiry := none, closeExpiry := none, settleExpiry := none, last := none, refusals := 0 }

def gateRun : Gate := { state := .normal, commanded := false, travel := none, isolated := false, pending := none }

def groupRun : Group :=
  { state := .running, priority := none, source := none, runner := none, fault := none, lastRun := none,
    isolated := false, refusals := 0 }

def wallRun : Wall :=
  { state := .normal, causes := { incident := false, manual := false, circuit := false }, warning := none,
    holder := .normal, isolated := false, refusals := 0, releasedAt := none,
    doors := [{ state := .openHeld, expiry := none }] }

def sirenRun : Siren :=
  { demands := [], testDemand := false, sounding := none, phase := none, cadence := none, fault := false,
    testFault := false, isolated := false }

def walkOff : Walk := { active := false, expiry := none, startedAt := none, sparks := 0, seen := [] }

def monitorRun : Monitor := { state := .normal, candidate := none, count := 0, blanking := none }

/-- The small mill in RUN at 5 s, with nothing afoot and its fan running. -/
def mill : State :=
  { State.reset with
    now := 5000#32
    lp := { LinkPort.reset with mode := .run, linkTimeout := 10, hostLostExpiry := some 15000#32 }
    tables := lab, model := lab
    lc := { LoopController.reset with
      roster := [(1, device0), (2, { device0 with kind := .detector .downstream }), (10, flow0)]
      state := .up, powered := true, silence := some 6000#32, walks := [(0, walkOff)] }
    tc := [(0, { vf := some 2000, raw := some 2000, readAt := some 4900#32, stale := some 5900#32, state := .conveying,
                 transit := none })]
    vg := { valves := [(0, valveRun)], gates := [(0, gateRun)] }
    it := { incidents := [], lastId := 0, sparks := [(0, { ring := [], total := 0, wrapped := false })] }
    gs := [(0, groupRun)]
    cc := { walls := [(0, wallRun)], crossings := [(0, { state := .opened, expiry := none })] }
    sc := { SirenController.reset with sirens := [(0, sirenRun)], nextAdvance := 6000#32 }
    pi := { PointInterface.reset with debounced := [(2, true)], debounceTime := [(5, 20)] }
    cm := [(0, monitorRun), (1, monitorRun), (2, monitorRun)] }

/-- The small mill in CONFIG, its tables loaded. -/
def millConfig : State := { mill with lp := { mill.lp with mode := .config, hostLostExpiry := none } }

/-- An incident on duct 0. -/
def fire (level : Nat) (acked : Bool) : Incident :=
  { id := 1, level := level, acked := acked
    primary := { id := .duct 0, lastSpark := some 4000#32, held := false, source := some (1, 4000#32) }
    merged := [], openedAt := 4000#32, stamp := none, lastSpark := some 4000#32, sparks := 1, causes := [.firstSpark]
    flags := { marginal := false, gateLate := false, merged := false, isolatedAction := false, silenced := false }
    actions := [], further := 0, unacked := none, quiet := none, resound := none }

def burning (i : Incident) : State := { mill with it := { mill.it with incidents := [i], lastId := i.id } }

def withValve (v : Valve) : State := { mill with vg := { mill.vg with valves := [(0, v)] } }
def withGate (g : Gate) : State := { mill with vg := { mill.vg with gates := [(0, g)] } }
def withGroup (g : Group) : State := { mill with gs := [(0, g)] }
def withWall (w : Wall) : State := { mill with cc := { mill.cc with walls := [(0, w)] } }
def withSiren (r : Siren) : State := { mill with sc := { mill.sc with sirens := [(0, r)] } }
def withMonitor (r : Monitor) : State := { mill with cm := [(0, r), (1, monitorRun), (2, monitorRun)] }
def withSlot (c : Option LoopCommand) : State := { mill with lc := { mill.lc with slot := c } }
def withDevice (r : Device) : State := { mill with lc := { mill.lc with roster := [(1, r), (10, flow0)] } }
def withReplies (n : Nat) : State :=
  { mill with lp := { mill.lp with replies := List.replicate n { kind := 0x01#8, tag := 0#8, status := .accepted .nothing } } }

/-- A notice, for queues that only need to be long. -/
def notice (c : NoticeClass) : Notice := { seq := 0#16, cls := c, time := 0#32, body := .loopState }

def withNotices (l : List Notice) : State := { mill with lp := { mill.lp with notices := l } }

/-- What a part of the state is after a command; none where the machine stops. -/
def after {α : Type} (c : Instr) (s : State) (f : State → α) : Option α :=
  match exec c s with
  | .next t => some (f t)
  | _ => none

/-- The reply a command adds last. -/
def answer (c : Instr) (s : State) : Option ReplyStatus :=
  (after c s fun t => t.lp.replies.getLast?.map fun r => r.status).join

theorem taken_by {k : ReqKind} {s : State}
    (h : (decide (s.lp.replies.length < 4) && (modeRefusal k s.lp.mode).isNone) = true) : Taken k s := by
  simp only [Bool.and_eq_true, decide_eq_true_eq, Option.isNone_iff_eq_none] at h
  exact ⟨h.1, h.2⟩

theorem out_by {e : Option PartTime} {now : PartTime} (h : due e now = true) : HasRunOut e now := by
  cases e with
  | none => cases h
  | some x => exact ⟨x, rfl, by simpa [due, before] using h⟩

/-! ## Well-formedness: an ill-formed term for each check -/

theorem test_wf_body_too_long : WellFormed (.ack 0#8 (List.replicate 249 0#8)) = false := by decide +kernel
theorem test_wf_body_fits : WellFormed (.ack 0#8 (List.replicate 248 0#8)) = true := by decide +kernel
theorem test_wf_unknown_kind_is_known : WellFormed (.unknownKind 0x01#8 0#8 []) = false := by decide +kernel
theorem test_wf_unknown_kind_too_long : WellFormed (.unknownKind 0xFF#8 0#8 (List.replicate 249 0#8)) = false := by
  decide +kernel
theorem test_wf_unknown_kind : WellFormed (.unknownKind 0xFF#8 0#8 []) = true := by decide +kernel
theorem test_wf_device_zero : WellFormed (.pollDue 0#6) = false := by decide
theorem test_wf_device_sixty_three : WellFormed (.pollNoAnswer 63#6) = false := by decide
theorem test_wf_device_slot : WellFormed (.loopFrameSpoiled (some 63#6)) = false := by decide
theorem test_wf_device_bounds : WellFormed (.pollDue 1#6) = true ∧ WellFormed (.pollDue 62#6) = true := by decide
theorem test_wf_duct : WellFormed (.staleExpiry 16) = false ∧ WellFormed (.staleExpiry 15) = true := by decide
theorem test_wf_incident : WellFormed (.quietExpiry 0) = false ∧ WellFormed (.quietExpiry 256) = false := by decide
theorem test_wf_group : WellFormed (.pauseExpiry 6) = false ∧ WellFormed (.pauseExpiry 5) = true := by decide
theorem test_wf_wall : WellFormed (.warningExpiry 12) = false ∧ WellFormed (.warningExpiry 11) = true := by decide
theorem test_wf_door : WellFormed (.doorCloseExpiry 0 0) = false ∧ WellFormed (.doorCloseExpiry 0 5) = false ∧
    WellFormed (.doorCloseExpiry 12 1) = false := by decide
theorem test_wf_crossing : WellFormed (.damperExpiry 24) = false := by decide
theorem test_wf_siren : WellFormed (.cadenceExpiry 16) = false := by decide
theorem test_wf_point : WellFormed (.debounceExpiry 128) = false := by decide
theorem test_wf_channel : WellFormed (.monitorSample 48 0#10) = false := by decide
theorem test_wf_monitor : WellFormed (.blankingExpiry 48) = false := by decide

/-! ## The step and its queue -/

/-- A fifth command waits while the first is taken. -/
theorem test_step_takes_the_front : (match step { State.reset with pending := [.linkFrameDiscarded, .coldReset] } with
    | .next t => some (t.pending, t.lp.errors)
    | _ => none) = some ([.coldReset], 1) := by decide +kernel

theorem test_idle_step_ticks : (match step State.reset with
    | .next t => some t.now
    | _ => none) = some 1#32 := by decide +kernel

theorem test_clock_falls_due_at_one_second : (match step { State.reset with now := 999#32 } with
    | .next t => some t.pending
    | _ => none) = some [.clockAdvance] := by decide +kernel

theorem test_lab_passes_every_check : answer (.commit 0#8 []) millConfig = some (.accepted .nothing) := by
  decide +kernel

/-! ## Single steps against the spec's tables and worked figures -/

/-- 12 R182: SYNC, length, payload and the check of a SETUP frame, taken byte by byte: SETUP moves LINK-WAIT to CONFIG. -/
theorem test_link_frame_is_taken :
    ((linkFrame [0x01#8, 0x07#8, 0x0A#8, 0x04#8]).foldl (fun (s : Option State) b => s.bind fun s =>
        after (.linkByteReceived b) s id) (some State.reset)).map (fun t => (t.lp.mode, t.lp.linkTimeout,
          t.lp.attnThreshold, t.lp.replies.map fun r => r.tag)) = some (.config, 10, 4, [0x07#8]) := by decide +kernel

/-- 11 R171: a byte other than SYNC is discarded while hunting. -/
theorem test_hunting_discards : after (.linkByteReceived 0x55#8) State.reset (fun t => t.lp.receiver) = some .hunting := by
  decide +kernel

/-- 11 R171: a length of 251 is no length. -/
theorem test_length_too_long : after (.linkByteReceived 251#8)
    { State.reset with lp := { LinkPort.reset with receiver := .awaitLength 0#32 } } (fun t => (t.lp.receiver, t.lp.errors)) =
      some (.hunting, 1) := by decide +kernel

/-- 11.6: in a full queue a FAULT notice removes the oldest STATE notice and sets the overrun flag. -/
theorem test_full_queue_displaces :
    (postNotice .fault .loopState (withNotices (notice .alarm :: List.replicate 63 (notice .state)))).lp.notices.map
      (fun n => n.cls) = .alarm :: List.replicate 62 .state ++ [.fault] := by decide +kernel

/-- 11 R178: FETCH 8 of 64 small notices leaves 56. -/
theorem test_fetch_eight : after (.fetch 0#8 [8#8]) (withNotices (List.replicate 64 (notice .state)))
    (fun t => t.lp.notices.length) = some 56 := by decide +kernel

theorem test_fetch_nine : answer (.fetch 0#8 [9#8]) mill = some (.refused .badValue .field [0]) := by decide +kernel

/-- 11 R172: a fifth request is not taken: no reply, one link error. -/
theorem test_fifth_request : after (.queryLink 0#8 []) (withReplies 4) (fun t => (t.lp.replies.length, t.lp.errors)) =
    some (4, 1) := by decide +kernel

theorem test_unknown_kind : answer (.unknownKind 0xEE#8 0#8 []) State.reset = some (.refused .unknownKind .none []) := by
  decide +kernel

/-- 01 R2: index 6 of the group table is NO-SUCH. -/
theorem test_load_no_such : answer (.load 0#8 [5#8, 6#8, 0#8]) millConfig = some (.refused .noSuch .none []) := by
  decide +kernel

/-- 01 R9, R2: pattern ON time 0 with an off time. -/
theorem test_load_pattern : answer (.load 0#8 [10#8, 0#8, 1#8, 0#8, 0#8, 0#8, 5#8]) millConfig =
    some (.refused .badValue .field [10, 0, 0, 255]) := by decide +kernel

/-- 1.12: a duct lists a wall that no crossing gives it: REFERENCE, duct 0, field crossing list. -/
theorem test_commit_reference :
    (answer (.commit 0#8 []) { millConfig with tables := { lab with crossings := [] } }).map (fun r => match r with
      | .refused _ _ args => args.take 3
      | _ => []) = some [0, 0, 0] := by decide +kernel

/-- 3.5: a filtered velocity of 2407 and a reading of 0 with k = 2 give 1806. -/
theorem test_filter_truncates_toward_zero :
    after (.flowSensorAnswer 10#6 0#16) { mill with tc := [(0, { vf := some 2407, raw := none, readAt := none, stale := none,
                                                                 state := .conveying, transit := none })] }
      (fun t => (Table.get t.tc 0).bind fun v => v.vf) = some (some 1806) := by decide +kernel

/-- 3.6: the CONVEYING window of the worked case is [10180, 10757]. -/
theorem test_conveying_window :
    (computeTransit { duct0 with vMax := 4000, tolerance := 20, wMax := 4000 }
      { valve0 with lead := 120, afterRun := 300 }
      { vf := some 2400, raw := none, readAt := none, stale := none, state := .conveying, transit := none }
      false 1 900 9988#32 10000#32).outcome = .queued 10180#32 10757#32 := by decide +kernel

/-- 3.6: the MISSED case. -/
theorem test_missed_spark :
    (computeTransit { duct0 with vMax := 4000, tolerance := 20, wMax := 4000 }
      { valve0 with lead := 120, afterRun := 300 }
      { vf := some 6000, raw := none, readAt := none, stale := none, state := .conveying, transit := none }
      false 1 300 19745#32 20000#32).outcome = .missed := by decide +kernel

/-- 4.6: the near window joins the open head, and the union joins the next. -/
theorem test_windows_cascade :
    mergeWindow 50 { openAt := 10518#32, closeAt := 11009#32, sparks := 1 }
      [{ openAt := 10292#32, closeAt := 10869#32, sparks := 1 }, { openAt := 10921#32, closeAt := 11863#32, sparks := 1 }] =
    [{ openAt := 10292#32, closeAt := 11863#32, sparks := 3 }] := by decide +kernel

/-- 4 R60: the open expiry drives the output on. -/
theorem test_valve_opens :
    after (.openExpiry 0) (withValve { valveRun with queue := [{ openAt := 5000#32, closeAt := 5400#32, sparks := 1 }],
                                                     openExpiry := some 5000#32 })
      (fun t => (levelOf t.pi.out 2, (Table.get t.vg.valves 0).map fun v => v.state)) = some (true, some .opening) := by
  decide +kernel

/-- 4.8: a gate that is not DIVERTED when its travel expiry runs out is JAMMED. -/
theorem test_gate_jams : after (.travelExpiry 0) (withGate { gateRun with state := .toDivert, travel := some 5000#32 })
    (fun t => ((Table.get t.vg.gates 0).map fun g => g.state, t.lines.fault)) = some (some .jammed, true) := by
  decide +kernel

/-- 5.9: the first spark opens incident 1 at level 1; ALARM stays off. -/
theorem test_first_spark : after (.sparkReport 1#6 false 0#2 0#8) mill
    (fun t => (t.it.incidents.map fun i => (i.id, i.level, i.causes), t.lines.alarm)) =
      some ([(1, 1, [.firstSpark])], false) := by decide +kernel

/-- 02 R26: a report whose toggle is the last accepted one is discarded. -/
theorem test_repeat_is_discarded : after (.sparkReport 1#6 false 0#2 0#8) (withDevice { device0 with toggle := some false })
    (fun t => (t.it.incidents.length, t.lc.ackOwed)) = some (0, some (1, false)) := by decide +kernel

/-- 05 R85: MANUAL-ALARM opens a level-3 incident and raises ALARM. -/
theorem test_manual_alarm : after (.manualAlarm 0#8 [1#8]) mill
    (fun t => (t.it.incidents.map fun i => i.level, t.lines.alarm)) = some ([3], true) := by decide +kernel

theorem test_ack : after (.ack 0#8 [1#8]) (burning (fire 2 false)) (fun t => t.it.incidents.map fun i => i.acked) =
    some [true] := by decide +kernel

/-- 5.9: a reset before the origin duct's Q has passed is refused NOT-QUIET, naming the duct. -/
theorem test_reset_not_quiet : answer (.resetIncident 0#8 [1#8]) (burning (fire 3 true)) =
    some (.refused .badState .notQuiet [0]) := by decide +kernel

/-- 6.6: a NORMAL demand drives the infeeds off and waits in its PAUSE. -/
theorem test_stop_group : after (.stopGroup 0#8 [0#8]) mill
    (fun t => (Table.get t.gs 0).map fun r => (r.state, r.runner.map fun x => (x.step, x.expiry))) =
      some (some (.stopping, some (2, some 10000#32))) := by decide +kernel

/-- 07 R123: the warning expiry drives holder and damper outputs off and closes the door. -/
theorem test_wall_is_released :
    after (.warningExpiry 0) (withWall { wallRun with state := .warning, warning := some 5000#32 })
      (fun t => (Table.get t.cc.walls 0).map fun r => (r.state, r.doors.map fun d => (d.state, d.expiry))) =
    some (some (.released, [(.closing, some 15000#32)])) := by decide +kernel

/-- 8, worked spans: compartment 7 with margin 7 leaves out sector 1 alone. -/
theorem test_widened_span : (List.range 16).filter (fun n => !inWidened { spanStart := 9, spanEnd := 9, margin := 7 } n) =
    [1] := by decide +kernel

theorem test_plain_span_wraps : (List.range 16).filter (inPlain { spanStart := 14, spanEnd := 1, margin := 2 }) =
    [0, 1, 14, 15] := by decide +kernel

/-- 08 R144: the last second of day 65535 carries into day 0 and the next weekday. -/
theorem test_clock_carries :
    after .clockAdvance { mill with sc := { mill.sc with nextAdvance := 5000#32, clock := {
      time := { day := 65535, weekday := 6, hour := 23, minute := 59, second := 59 }, isSet := false } } }
      (fun t => t.sc.clock.time) = some { day := 0, weekday := 0, hour := 0, minute := 0, second := 0 } := by
  decide +kernel

/-- 9.6: the second sample of the candidate reaches F = 2. -/
theorem test_monitor_filters :
    after (.monitorSample 0 20#10) (withMonitor { monitorRun with candidate := some .opened, count := 1 })
      (fun t => ((Table.get t.cm 0).map fun r => r.state, (Table.get t.vg.valves 0).map fun v => v.circuit)) =
    some (some .opened, some true) := by decide +kernel

/-- 09 R153: a change with debounce time 0 is taken at the pass that shows it: the fan trips. -/
theorem test_fan_trip : after (.inChainPass true 0#128) mill (fun t => (Table.get t.gs 0).map fun r => (r.state, r.source)) =
    some (some (.stopping, some .fanTrip)) := by decide +kernel

/-- 09 R152: a valve's output is OWNED by entry 0 of the valve table. -/
theorem test_drive_owned : answer (.drivePoint 0#8 [2#8, 0#8]) mill = some (.refused .owned .none [3, 0]) := by
  decide +kernel

/-- 10 R161: a group that is STOPPING is BUSY for ISOLATE. -/
theorem test_isolate_busy : answer (.isolate 0#8 [5#8, 0#8]) (withGroup { groupRun with state := .stopping }) =
    some (.refused .busy .state [1]) := by decide +kernel

/-- A kind byte beyond the six elements (11 R172, check 4; 12 R182). -/
theorem test_isolate_kind : answer (.isolate 0#8 [6#8, 0#8]) mill = some (.refused .badValue .field [0]) := by decide +kernel

theorem test_walk_start : answer (.walkStart 0#8 [0#8, 1#8]) mill = some (.accepted (.walk 0 65000#32)) := by
  decide +kernel


/-! ## States and operands that meet the statements' hypotheses

Each theorem names its statement; a statement of several clauses has one conjunct or more for each. -/

theorem test_hyps_StepTakesTheFrontCommand :
    ({ mill with pending := [.coldReset, .replySent] } : State).pending = .coldReset :: [.replySent] := rfl

theorem test_hyps_IdleStepIsOneMillisecond : mill.pending = [] := rfl

theorem mill_bounds : Bounds mill := by constructor <;> decide +kernel
theorem burning_bounds : Bounds (burning (fire 2 false)) := by constructor <;> decide +kernel

theorem mill_lines : LinesLaw mill := by
  constructor
  · decide +kernel
  · decide +kernel
  · constructor
    · intro h; cases h
    · rintro ⟨c, h⟩; cases c <;> revert h <;> decide +kernel

theorem test_hyps_AlarmLineFollowsIncidents :
    (LinesLaw mill ∧ ∃ t, exec (.manualAlarm 0#8 [0#8]) mill = .next t ∧ mill.lines.alarm ≠ t.lines.alarm) ∧
    (∃ t, exec .coldReset (burning (fire 3 false)) = .next t) ∧
    ∃ t, exec (.commit 0#8 []) millConfig = .next t ∧ millConfig.lp.mode = .config ∧ t.lp.mode = .run :=
  ⟨⟨mill_lines, _, rfl, by decide +kernel⟩, ⟨_, rfl⟩, _, rfl, rfl, by decide +kernel⟩

/-- A queue full of STATE notices under a threshold of 64. -/
def full : State :=
  { mill with lp := { mill.lp with attnThreshold := 64, notices := List.replicate 64 (notice .state) } }

theorem test_hyps_AttnLineFollowsQueue :
    (∃ t, exec .replySent (withNotices [notice .state]) = .next t ∧ t.lp.attnThreshold = 1 ∧ t.lp.notices ≠ []) ∧
    (Bounds full ∧ ∃ t, exec .replySent full = .next t ∧ t.lp.attnThreshold = 64 ∧ ∀ n ∈ t.lp.notices, n.cls ≠ .alarm) ∧
    ∃ t, exec .coldReset full = .next t :=
  ⟨⟨_, rfl, by decide +kernel, by decide +kernel⟩,
    ⟨by constructor <;> decide +kernel, _, rfl, by decide +kernel, by decide +kernel⟩, _, rfl⟩

theorem test_hyps_FaultLineFollowsConditions : ∃ t, exec (.outChainPass false) mill = .next t := ⟨_, rfl⟩

theorem test_hyps_StepKeepsLimits : Bounds (burning (fire 2 false)) ∧ ∃ t, step (burning (fire 2 false)) = .next t :=
  ⟨burning_bounds, _, rfl⟩

/-- A fire that its siren sounds for, while reads wait, a test has been answered and a walk has seen both detectors. -/
def busy : State :=
  { burning (fire 2 false) with
    lc := { mill.lc with
      slot := some (.test 63#6 0#6 false (some 5500#32) [1, 63]), autoReads := [1, 2]
      walks := [(0, { walkOff with active := true, seen := [1, 2] })] }
    sc := { mill.sc with sirens := [(0, { sirenRun with
      demands := [{ incident := 1, evacuate := false, silenced := true }] })] } }

theorem busy_sets : SetBounds busy where
  demands n r h := by
    by_cases hn : 0 = n
    · subst hn; cases h; decide +kernel
    · simp [busy, Table.get, hn] at h
  autoReads := by decide +kernel
  seen d w h := by
    by_cases hd : 0 = d
    · subst hd; cases h
      refine ⟨by decide, by decide, fun a ha => ?_⟩
      obtain rfl | rfl : a = 1 ∨ a = 2 := by simpa [walkOff] using ha
      · exact ⟨_, rfl, by decide, rfl⟩
      · exact ⟨_, rfl, by decide, rfl⟩
    · simp [busy, Table.get, hd] at h
  answered target mask due window l h := by
    cases h; decide
  detectors d := Nat.le_trans (List.length_filter_le ..) (by decide)
  roster := by decide +kernel
  devices := by decide
  addresses := by decide +kernel

theorem test_hyps_StepKeepsLimits_sets :
    Bounds busy ∧ TablesRise busy.tables ∧ SetBounds busy ∧
    ∃ t, step { busy with pending := [.detectorPollAnswer 2#6 false false true] } = .next t :=
  ⟨by constructor <;> decide +kernel, by constructor <;> decide +kernel, busy_sets, _, rfl⟩

theorem test_hyps_IncidentTableKeepsItsLaws :
    (OutsideRunEmpty millConfig ∧ ∃ t, step { millConfig with pending := [.commit 0#8 []] } = .next t) ∧
    (Bounds (burning (fire 2 false)) ∧ OriginsDistinct (burning (fire 2 false)) ∧
      ∃ t, step { burning (fire 2 false) with pending := [.ack 0#8 [1#8]] } = .next t ∧
        ∃ i ∈ (burning (fire 2 false)).it.incidents, ∃ j ∈ t.it.incidents, i.id = j.id) :=
  ⟨⟨fun _ => rfl, _, rfl⟩, burning_bounds, by unfold OriginsDistinct; decide +kernel, _, rfl, by decide +kernel⟩

theorem test_hyps_SirensSoundTheirSelection :
    SirensSelect (withSiren { sirenRun with testDemand := true, sounding := some .test, phase := some .steady }) ∧
    ∃ t, step (withSiren { sirenRun with testDemand := true, sounding := some .test, phase := some .steady }) = .next t := by
  refine ⟨fun n r h => ?_, _, rfl⟩
  by_cases hn : 0 = n
  · subst hn; cases h; constructor <;> simp [sirenRun]
  · simp [withSiren, Table.get, hn] at h

theorem lab_rises : TablesRise lab := by constructor <;> decide +kernel

theorem mill_records : RecordsFollowModel mill := by
  refine ⟨fun a => ?_, rfl, rfl, rfl, rfl, rfl, rfl, rfl, rfl, rfl, rfl⟩
  constructor
  · rintro ⟨d, h⟩
    simp only [mill, List.mem_cons, Prod.mk.injEq, List.not_mem_nil, or_false] at h
    rcases h with ⟨rfl, -⟩ | ⟨rfl, -⟩ | ⟨rfl, -⟩ <;> decide +kernel
  · rintro (⟨e, h, rfl⟩ | ⟨e, h, rfl⟩)
    · simp only [mill, lab, List.mem_cons, List.not_mem_nil, or_false] at h
      rcases h with rfl | rfl
      · exact ⟨device0, by decide +kernel⟩
      · exact ⟨{ device0 with kind := .detector .downstream }, by decide +kernel⟩
    · simp only [mill, lab, List.mem_cons, List.not_mem_nil, or_false] at h
      subst h
      exact ⟨flow0, by decide +kernel⟩

theorem test_hyps_RecordsFollowCommittedModel :
    (TablesRise mill.tables ∧ TablesRise mill.model) ∧ Table.wf mill.lc.roster = true ∧ RecordsFollowModel mill ∧
    ∃ t, step mill = .next t :=
  ⟨⟨lab_rises, lab_rises⟩, by decide +kernel, mill_records, _, rfl⟩

theorem test_hyps_ModeChangesOnlyBySession :
    (∃ t, exec (.setup 0#8 [0#8, 1#8]) State.reset = .next t ∧ t.lp.mode ≠ State.reset.lp.mode) ∧
    (∃ t, exec (.commit 0#8 []) millConfig = .next t ∧ t.lp.mode ≠ millConfig.lp.mode) ∧
    (∃ t, exec (.enterConfig 0#8 []) mill = .next t ∧ t.lp.mode ≠ mill.lp.mode) ∧
    ∃ t, exec .coldReset mill = .next t ∧ t.lp.mode ≠ mill.lp.mode :=
  ⟨⟨_, rfl, by decide +kernel⟩, ⟨_, rfl, by decide +kernel⟩, ⟨_, rfl, by decide +kernel⟩, _, rfl, by decide +kernel⟩

theorem test_hyps_TablesChangeOnlyInConfig :
    (∃ t, exec (.clearConfig 0#8 []) millConfig = .next t ∧ t.tables ≠ millConfig.tables) ∧
    ∃ t, exec (.commit 0#8 []) { millConfig with model := MillModel.empty } = .next t ∧ t.model ≠ MillModel.empty :=
  ⟨⟨_, rfl, by decide +kernel⟩, _, rfl, by decide +kernel⟩

theorem test_hyps_NoticesArePlacedByClass :
    (withNotices (List.replicate 63 (notice .state))).lp.notices.length < 64 ∧
    (64 ≤ (withNotices (List.replicate 64 (notice .fault))).lp.notices.length ∧
      (withNotices (List.replicate 64 (notice .fault))).lp.notices =
        [] ++ notice .fault :: List.replicate 63 (notice .fault) ∧
      ∀ y ∈ (withNotices (List.replicate 64 (notice .fault))).lp.notices, y.cls ≠ .state) ∧
    (64 ≤ (withNotices (notice .alarm :: List.replicate 63 (notice .state))).lp.notices.length ∧
      (withNotices (notice .alarm :: List.replicate 63 (notice .state))).lp.notices =
        [notice .alarm] ++ notice .state :: List.replicate 62 (notice .state) ∧
      ∀ y ∈ [notice .alarm], y.cls ≠ (notice .state).cls) ∧
    64 ≤ (withNotices (List.replicate 64 (notice .alarm))).lp.notices.length ∧
      ∀ y ∈ (withNotices (List.replicate 64 (notice .alarm))).lp.notices, y.cls = .alarm := by decide +kernel

theorem test_hyps_AlarmNoticesAreNeverDisplaced :
    ∃ t, exec (.pollDue 1#6) (withNotices [notice .alarm]) = .next t ∧ (∀ tag body, Instr.pollDue 1#6 ≠ .fetch tag body) ∧
      (∀ b, Instr.pollDue 1#6 ≠ .linkByteReceived b) ∧ Instr.pollDue 1#6 ≠ .coldReset :=
  ⟨_, rfl, fun _ _ h => (nomatch h), fun _ h => (nomatch h), by decide⟩

/-- The receiver in a frame whose payload and check bytes these are but for the last byte. -/
def inFrame (n : Nat) (bytes : List Byte) (rest : Nat) : State :=
  { State.reset with now := 20#32, lp := { LinkPort.reset with receiver := .inFrame n bytes rest 0#32 } }

theorem test_hyps_LinkBytesBuildFrames :
    State.reset.lp.receiver = .hunting ∧
    (({ State.reset with now := 20#32, lp := { LinkPort.reset with receiver := .awaitLength 0#32 } } : State).lp.receiver =
      .awaitLength 0#32 ∧ ((20#32 : PartTime) - 0#32).toInt ≤ 20) ∧
    ((inFrame 2 [] 4).lp.receiver = .inFrame 2 [] 4 0#32 ∧ 2 ≤ 4) ∧
    (([] ++ [0x14#8, 0x00#8] ++ [0xAA#8]) ++ [0xBB#8] = [0x14#8, 0x00#8] ++ [0xAA#8, 0xBB#8] ∧
      [0x14#8, 0x00#8].length = 2 ∧ (inFrame 2 [0x14#8, 0x00#8, 0xAA#8] 1).lp.receiver =
        .inFrame 2 [0x14#8, 0x00#8, 0xAA#8] 1 0#32 ∧ [0x14#8, 0x00#8] = codeOf .queryWall :: 0x00#8 :: []) ∧
    (20 < ((21#32 : PartTime) - 0#32).toInt ∧ ∀ k, (0xEE#8 : Byte) ≠ codeOf k) := by
  refine ⟨rfl, ⟨rfl, by decide⟩, ⟨rfl, by decide⟩, ⟨rfl, rfl, rfl, by decide +kernel⟩, by decide, fun k => ?_⟩
  cases k <;> decide +kernel

/-- The check of a frame as its two last bytes carry it. -/
theorem test_hyps_LinkBytesBuildFrames_check :
    (linkCheck (BitVec.ofNat 8 2 :: [0x01#8, 0x00#8])).toNat =
      wordOf (BitVec.ofNat 8 ((linkCheck (BitVec.ofNat 8 2 :: [0x01#8, 0x00#8])).toNat / 256))
        (BitVec.ofNat 8 ((linkCheck (BitVec.ofNat 8 2 :: [0x01#8, 0x00#8])).toNat % 256)) := by decide +kernel

theorem test_hyps_LinkEventsComplete :
    ({ State.reset with now := 21#32, lp := { LinkPort.reset with receiver := .awaitLength 0#32 } } : State).lp.receiver =
      .awaitLength 0#32 ∧ 20 < ((21#32 : PartTime) - 0#32).toInt ∧
    (withReplies 3).lp.replies.length < 4 ∧
    (∃ r rest, (withReplies 1).lp.replies = r :: rest) ∧
    mill.lp.mode = .run ∧ HasRunOut (some 15000#32) 15000#32 :=
  ⟨rfl, by decide, by decide +kernel, ⟨_, _, rfl⟩, rfl, out_by (by decide)⟩

theorem test_hyps_RequestsAreTakenByMode :
    (State.reset.lp.replies.length < 4 ∧ State.reset.lp.mode = .linkWait ∧ ReqKind.load ≠ .setup) ∧
    ((withReplies 3).lp.replies.length < 4 ∧ (withReplies 3).lp.mode = .run) ∧ millConfig.lp.mode = .config := by
  decide +kernel

theorem test_hyps_FramesAreCheckedBeforeOwners :
    (4 ≤ (withReplies 4).lp.replies.length ∧ Instr.ack 0#8 [1#8] = command .ack 0#8 [1#8]) ∧
    (∀ k ∈ [ReqKind.clearConfig, .commit, .load], Taken k millConfig) ∧
    (∀ k ∈ [ReqKind.setup, .enterConfig, .queryLink, .testSirens, .queryValve, .queryGroup, .queryWall, .querySiren,
      .queryLoop, .fetch, .ack, .resetIncident, .manualAlarm, .releaseWall, .reholdWall, .restartGroup, .stopGroup, .walkEnd,
      .readDetector, .clearValveFail, .walkStart, .detectorTest, .isolate, .restore, .queryDuct, .drivePoint,
      .queryIncident, .silence, .setClock], Taken k mill) ∧
    (2 ≤ (2#8 : Byte).toNat ∧ (1#8 : Byte).toNat < 2 ∧ 6 ≤ (6#8 : Byte).toNat ∧ (5#8 : Byte).toNat < 6) ∧
    (([] : List Byte).length < 6 ∧ (List.replicate 5 0#8).length < 6 ∧ 6 < (List.replicate 7 0#8).length) := by
  refine ⟨⟨by decide +kernel, rfl⟩, fun k h => taken_by ?_, fun k h => taken_by ?_, by decide, by decide⟩ <;>
    revert k <;> decide +kernel

theorem test_hyps_SetupIsTakenInEveryMode :
    State.reset.lp.replies.length < 4 ∧ (withReplies 3).lp.replies.length < 4 ∧
    (60 < (61#8 : Byte).toNat ∧ ¬ 60 < (60#8 : Byte).toNat) ∧ (64 < (65#8 : Byte).toNat ∧ ¬ 64 < (64#8 : Byte).toNat) := by
  decide +kernel

theorem test_hyps_FetchReturnsOldestNotices :
    Taken .fetch (withNotices (List.replicate 9 (notice .state))) ∧ Taken .fetch millConfig :=
  ⟨taken_by rfl, taken_by rfl⟩

theorem test_hyps_EnterConfigClosesValvesAndSirens :
    (Taken .enterConfig (burning (fire 1 false)) ∧ (burning (fire 1 false)).it.incidents = fire 1 false :: []) ∧
    (Taken .enterConfig (withGroup { groupRun with state := .starting }) ∧
      (withGroup { groupRun with state := .starting }).gs = [] ++ (0, { groupRun with state := .starting }) :: []) ∧
    (Taken .enterConfig mill ∧ mill.it.incidents = [] ∧ ∀ e ∈ mill.gs, e.2.state = .running ∨ e.2.state = .stopped) ∧
    Taken .enterConfig { mill with sc := { mill.sc with test := some (.host, 6000#32) } } :=
  ⟨⟨taken_by rfl, rfl⟩, ⟨taken_by rfl, rfl⟩, ⟨taken_by rfl, rfl, by decide +kernel⟩, taken_by rfl⟩

/-- The body of a LOAD of pattern 2: on time 200 ms, off time 800 ms. -/
def patternFields : List Byte := [0x00#8, 0xC8#8, 0x03#8, 0x20#8]

/-- A full set of loop devices. -/
def fullLoop : State :=
  { millConfig with tables := { lab with
      detectors := (List.range 61).map fun n => (n, { addr := n + 1, duct := 0, role := .downstream, dist := none,
                                                      gateDist := none }) } }

theorem test_hyps_LoadAndClearChangeTables :
    Taken .clearConfig millConfig ∧ Taken .load millConfig ∧
    (14 ≤ (14#8 : Byte).toNat ∧ ¬ 14 ≤ (13#8 : Byte).toNat) ∧
    tableIds[(10#8 : Byte).toNat]? = some .pattern ∧
    ((takeEntry .pattern []).bind wholeBody = .error { field := 0, step := 255 }) ∧
    ((takeEntry .pattern patternFields).bind wholeBody = .ok (.pattern { onTime := 200, offTime := 800 })) ∧
    (tableSize .pattern ≤ (3#8 : Byte).toNat ∧ ¬ tableSize .pattern ≤ (2#8 : Byte).toNat) ∧
    (Taken .load fullLoop ∧ 62 ≤ fullLoop.tables.detectors.length + fullLoop.tables.flows.length) :=
  ⟨taken_by rfl, taken_by rfl, by decide, rfl, rfl, rfl, by decide +kernel, taken_by rfl, by decide +kernel⟩

/-- An entry of each table that is within its ranges, and whose bytes give it back. -/
theorem test_hyps_LoadAndClearChangeTables_layout :
    ∀ e ∈ [Entry.duct duct0, .detector { addr := 1, duct := 0, role := .upstream, dist := some 300, gateDist := none },
      .flow { addr := 10, duct := 0, period := 100 }, .valve valve0, .gate gate0, .group group0,
      .compartment { spanStart := 14, spanEnd := 1, margin := 1 }, .wall wall0, .wall { wall0 with compB := none },
      .crossing crossing0, .siren { sector := 0, output := 8, monitor := none }, .pattern { onTime := 500, offTime := 300 },
      .plan { weekdays := 0x7F#7, hour := 8, minute := 0, duration := 20, enabled := true }, .monitor monitor0,
      .debounce 255],
      entryError e = none ∧ (match takeEntry (tableOf e) (fieldsOf e ++ [7#8]) with
        | .ok (x, rest) => decide (x = e ∧ rest = [7#8])
        | .error _ => false) = true := by
  decide +kernel

/-- 12 R182, 11 R172: a compartment B of 9 is no value of its field, whatever the index; of 8 it is YARD, and then index 12
is no wall. -/
theorem test_load_wall_yard :
    let fields (b : Byte) : List Byte := [7#8, 12#8, 1#8, 0#8, b, 0#8, 3#8, 4#8, 255#8, 10#8, 10#8, 0#8];
    answer (.load 1#8 (fields 9#8)) millConfig = some (.refused .badValue .field [7, 12, 1, 255]) ∧
    answer (.load 1#8 (fields 8#8)) millConfig = some (.refused .noSuch .none []) := by
  decide +kernel

/-- The bytes of a gate, of a detector without a distance to the gate and of a step list, written out from R182. -/
theorem test_layout_bytes :
    fieldsOf (.gate gate0) = [3#8, 1#8, 0x03#8, 0xE8#8] ∧
    fieldsOf (.detector { addr := 1, duct := 0, role := .upstream, dist := some 300, gateDist := none }) =
      [1#8, 1#8, 0#8, 0#8, 0x01#8, 0x2C#8, 0#8, 0#8] ∧
    fieldList fieldStep group0.shutdown = [3#8, 4#8, 0#8, 2#8, 0#8, 5#8, 3#8, 1#8] := by
  decide +kernel

/-- The small mill with another output for its siren; its own is 8. -/
def labWith (out : Nat) : MillModel := { lab with sirens := [(0, { sector := 0, output := out, monitor := some 2 })] }

theorem lab_refers (out : Nat) : ReferenceHolds (labWith out) := by
  refine ⟨by simp [labWith, lab], ?_, ?_, ?_, ?_, ?_, ?_, ?_, ?_,
    (by decide +kernel : ∀ k, k < 3 → Table.get lab.patterns k ≠ none)⟩
  all_goals
    intro n e h
    simp only [labWith, lab, List.mem_cons, Prod.mk.injEq, List.not_mem_nil, or_false] at h
  · obtain ⟨rfl, rfl⟩ := h
    simp [labWith, lab, duct0, valve0, wall0, crossing0, Table.get]
  · obtain ⟨rfl, rfl⟩ | ⟨rfl, rfl⟩ := h <;> simp [labWith, lab, duct0, valve0, wall0, crossing0, Table.get]
  all_goals
    obtain ⟨rfl, rfl⟩ := h
    simp [labWith, lab, duct0, valve0, wall0, crossing0, Table.get, NamesPresent]

/-- The checks that the small mill passes. -/
theorem lab_passes (k : Nat) : CheckHolds lab k := by
  match k with
  | 0 => exact lab_refers 8
  | 1 => exact (by decide +kernel : ((lab.detectors.map fun e => e.2.addr) ++ lab.flows.map fun e => e.2.addr).Nodup)
  | 2 => show OutputHolds lab; unfold OutputHolds; decide +kernel
  | 3 =>
    intro n e h
    simp only [lab, List.mem_cons, Prod.mk.injEq, List.not_mem_nil, or_false] at h
    obtain ⟨rfl, rfl⟩ := h
    exact ⟨by decide +kernel, by decide +kernel, _, rfl, rfl⟩
  | 4 =>
    intro n e d h hd
    simp only [lab, List.mem_cons, Prod.mk.injEq, List.not_mem_nil, or_false] at h
    obtain ⟨rfl, rfl⟩ | ⟨rfl, rfl⟩ := h <;> (simp [lab, Table.get, duct0] at hd; subst hd; simp)
  | 5 =>
    intro n e d x h hr hd hx
    simp only [lab, List.mem_cons, Prod.mk.injEq, List.not_mem_nil, or_false] at h
    obtain ⟨rfl, rfl⟩ | ⟨rfl, rfl⟩ := h
    · simp [lab, Table.get, duct0] at hd hx; subst hd hx; decide
    · cases hr
  | 6 =>
    refine ⟨by decide +kernel, ?_, ?_, ?_, ?_⟩
    · intro n e h
      simp only [lab, List.mem_cons, Prod.mk.injEq, List.not_mem_nil, or_false] at h
      obtain ⟨rfl, rfl⟩ | ⟨rfl, rfl⟩ | ⟨rfl, rfl⟩ := h <;> decide +kernel
    · intro n e k x h h'
      simp only [lab, List.mem_cons, Prod.mk.injEq, List.not_mem_nil, or_false] at h h'
      obtain ⟨rfl, rfl⟩ | ⟨rfl, rfl⟩ | ⟨rfl, rfl⟩ := h <;>
        obtain ⟨rfl, rfl⟩ | ⟨rfl, rfl⟩ | ⟨rfl, rfl⟩ := h' <;> simp [monitor0]
    · intro g e p on h hp
      simp only [lab, List.mem_cons, Prod.mk.injEq, List.not_mem_nil, or_false] at h
      obtain ⟨rfl, rfl⟩ := h
      simp [group0] at hp
    · intro g e p made t h hp
      simp only [lab, List.mem_cons, Prod.mk.injEq, List.not_mem_nil, or_false] at h
      obtain ⟨rfl, rfl⟩ := h
      simp [group0] at hp
  | n + 7 => trivial

/-- The small mill without patterns fails REFERENCE; with an output point claimed twice, OUTPUT alone. -/
theorem test_hyps_CommitRefusesFirstFailedCheck :
    (Taken .commit { millConfig with tables := { lab with patterns := [] } } ∧ TablesRise { lab with patterns := [] } ∧
      ¬ CheckHolds { lab with patterns := [] } 0 ∧ FailsAt { lab with patterns := [] } 0 10 0 [] 255 255) ∧
    (Taken .commit { millConfig with tables := labWith 7 } ∧ TablesRise (labWith 7) ∧
      (∀ k, k < 2 → CheckHolds (labWith 7) k) ∧ ¬ CheckHolds (labWith 7) 2) := by
  refine ⟨⟨taken_by rfl, by constructor <;> decide +kernel, fun h => h.patterns 0 (by decide) rfl,
    .patternAbsent (by decide) rfl⟩, taken_by rfl, by constructor <;> decide +kernel, fun k hk => ?_, fun h => ?_⟩
  · match k, hk with
    | 0, _ => exact lab_refers 7
    | 1, _ => exact lab_passes 1
  · revert h; show ¬ OutputHolds _; unfold OutputHolds; decide +kernel

theorem test_hyps_CommitBuildsRunState : (Taken .commit millConfig ∧ ∀ k, CheckHolds millConfig.tables k) ∧
    (∃ n e, (n, e) ∈ millConfig.tables.detectors ∧ e.addr = 2 ∧ e.role = .downstream) ∧
    ∃ n e, (n, e) ∈ millConfig.tables.flows ∧ e.addr = 10 ∧ e.period = 100 :=
  ⟨⟨taken_by rfl, lab_passes⟩, ⟨1, _, .tail _ (.head _), rfl, rfl⟩, 0, _, .head _, rfl, rfl⟩

theorem test_hyps_QueriesReturnTheRecords :
    (Taken .queryValve mill ∧ Taken .queryGroup mill ∧ Taken .queryWall mill ∧ Taken .querySiren mill ∧
      Taken .queryDuct mill ∧ Taken .queryIncident mill ∧ Taken .queryLoop mill ∧ Taken .queryLink mill) ∧
    Table.get mill.model.groups 0 = some group0 ∧ Table.get mill.model.groups 5 = none ∧
    Table.get mill.model.walls 0 = some wall0 ∧ Table.get mill.model.walls 11 = none ∧
    (∀ c ∈ mill.model.crossings, Table.get mill.cc.crossings c.1 ≠ none) ∧
    (Table.get mill.sc.sirens 0 = some sirenRun ∧ Table.get mill.sc.sirens 15 = none ∧
      (Table.get mill.model.sirens 0).isSome = true) ∧
    (findIncident (burning (fire 2 false)) 1 = some (fire 2 false) ∧ ∀ i ∈ (burning (fire 2 false)).it.incidents, i.id ≠ 255) ∧
    Table.get mill.lc.roster 1 = some device0 ∧ Table.get mill.lc.roster 63 = none ∧ (1#8 : Byte).toNat < 2 :=
  ⟨⟨taken_by rfl, taken_by rfl, taken_by rfl, taken_by rfl, taken_by rfl, taken_by rfl, taken_by rfl, taken_by rfl⟩,
    rfl, rfl, rfl, rfl, by decide +kernel, ⟨rfl, rfl, rfl⟩, ⟨by decide +kernel, by decide +kernel⟩, rfl, rfl, by decide⟩

/-- The small mill with its clock about to advance to this time. -/
def clockAt (weekday hour minute second : Nat) (s : State) : State :=
  { s with sc := { s.sc with nextAdvance := 5000#32, clock := {
      time := { day := 0, weekday := weekday, hour := hour, minute := minute, second := second }, isSet := true } } }

/-- The scheduled test falls due at the advance of this clock. -/
theorem plan_falls_due : (0 : Nat) = 0 ∧ mill.lp.mode = .run ∧ (clockAt 1 7 59 59 mill).sc.clock.isSet = true ∧
    ∃ p, mill.model.plan = some p ∧ p.enabled = true ∧ p.weekdays.getLsbD 1 = true ∧ 8 = p.hour ∧ 0 = p.minute :=
  ⟨rfl, rfl, rfl, _, rfl, rfl, by decide, rfl, rfl⟩

theorem test_hyps_ClockIsSetAndAdvances :
    (Taken .setClock mill ∧ 6 < (7#8 : Byte).toNat ∧ ¬ 6 < (6#8 : Byte).toNat) ∧
    HasRunOut (some (clockAt 1 7 59 59 mill).sc.nextAdvance) (clockAt 1 7 59 59 mill).now ∧
    (∃ i ∈ (clockAt 1 7 59 59 (burning (fire 2 false))).it.incidents, 2 ≤ i.level) ∧
    (∀ i ∈ (clockAt 1 7 59 59 (burning (fire 1 false))).it.incidents, i.level < 2) ∧
    ((clockAt 1 7 59 59 { mill with sc := { mill.sc with test := some (.host, 6000#32) } }).sc.test ≠ none) ∧
    (clockAt 1 7 59 59 mill).sc.test = none :=
  ⟨⟨taken_by rfl, by decide⟩, out_by rfl, by decide +kernel, by decide +kernel, by decide +kernel, rfl⟩

theorem test_hyps_SirensSelectAndStartCadence :
    (14 < 16 ∧ 1 < 16 ∧ 15 < 16) ∧ [0].Nodup ∧ 0 ∈ [0] ∧ Table.get mill.sc.sirens 0 = some sirenRun ∧
    selectPattern { sirenRun with testDemand := true } = some .test ∧
    selectPattern { sirenRun with demands := [{ incident := 1, evacuate := true, silenced := false }] } = some .evacuate ∧
    (∀ k x, k ≠ 0 → Table.get mill.model.sirens k = some x → x.output ≠ 8) := by
  refine ⟨by decide, by decide, by decide, rfl, rfl, rfl, fun k x hk h => ?_⟩
  simp [mill, lab, Table.get, Ne.symm hk] at h

/-- A siren with the demand of one incident, and an older incident that then makes its own. -/
theorem test_hyps_SirensSelectAndStartCadence_demand :
    findIncident (burning (fire 2 false)) 1 = some (fire 2 false) ∧
    (∃ e, Table.get lab.compartments 0 = some e ∧ inPlain e 0 = true ∧ inWidened e 2 = true ∧ inPlain e 2 = false) ∧
    Table.get lab.compartments 2 = none ∧
    (∀ d ∈ sirenRun.demands, d.incident ≠ 1) ∧
    (∃ d ∈ [{ incident := 1, evacuate := false, silenced := true : Demand }], d.incident = 1) ∧
    (sirenDemand 1 0 true (burning (fire 2 false))).2 = .done ∧
    (sirenDemand 1 0 true (withSiren { sirenRun with isolated := true })).2 = .isolated ∧
    (sirenDemand 1 1 true mill).2 = .done :=
  ⟨by decide +kernel, ⟨_, rfl, by decide⟩, rfl, fun _ h => (nomatch h), by decide, by decide +kernel, by decide +kernel,
    by decide +kernel⟩

/-- A siren that sounds ALERT at ON, its cadence run out. -/
def sounding : State :=
  withSiren { sirenRun with demands := [{ incident := 1, evacuate := true, silenced := false }], sounding := some .evacuate,
                            phase := some .on, cadence := some 5000#32 }

def testing : State :=
  { withSiren { sirenRun with testDemand := true, sounding := some .test, phase := some .on, cadence := some 5000#32 } with
    sc := { mill.sc with test := some (.host, 5000#32) } }

theorem test_hyps_SirenTestsRun :
    (Taken .testSirens (burning (fire 2 false)) ∧ ∃ i ∈ (burning (fire 2 false)).it.incidents, 2 ≤ i.level) ∧
    (Taken .testSirens testing ∧ (∀ i ∈ testing.it.incidents, i.level < 2) ∧ testing.sc.test ≠ none) ∧
    (Taken .testSirens (burning (fire 1 false)) ∧ (∀ i ∈ (burning (fire 1 false)).it.incidents, i.level < 2) ∧
      (burning (fire 1 false)).sc.test = none ∧ 20 = ((mill.model.plan.map fun p => p.duration).getD 10)) ∧
    (1 < 2 ∧ 2 ≤ 2 ∧ mill.sc.test = none) ∧
    (∃ r e, Table.get sounding.sc.sirens 0 = some r ∧ Table.get sounding.model.sirens 0 = some e ∧
      r.sounding = some .evacuate ∧ HasRunOut r.cadence sounding.now ∧ r.phase = some .on) ∧
    testing.sc.test = some (.host, 5000#32) ∧ HasRunOut (some 5000#32) testing.now :=
  ⟨⟨taken_by rfl, by decide +kernel⟩, ⟨taken_by rfl, by decide +kernel, by decide +kernel⟩,
    ⟨taken_by rfl, by decide +kernel, rfl, rfl⟩, ⟨by decide, by decide, rfl⟩, ⟨_, _, rfl, rfl, rfl, out_by rfl, rfl⟩, rfl,
    out_by rfl⟩

theorem test_hyps_AckStopsUnackedExpiry :
    (Taken .ack (burning (fire 2 false)) ∧ ∀ i ∈ (burning (fire 2 false)).it.incidents, i.id ≠ (2#8 : Byte).toNat) ∧
    (findIncident (burning (fire 2 false)) (1#8 : Byte).toNat = some (fire 2 false) ∧ (fire 2 false).acked = false) ∧
    (Taken .ack (burning (fire 2 true)) ∧ findIncident (burning (fire 2 true)) 1 = some (fire 2 true) ∧
      (fire 2 true).level < 3) ∧
    (∃ j, findIncident (rise 1 3 [.manual] none (burning (fire 2 true))) 1 = some j) ∧
    ∃ j, findIncident (mergeOrigin (.compartment 1) (fire 2 true) none (burning (fire 2 true))) 1 = some j :=
  ⟨⟨taken_by rfl, by decide +kernel⟩, ⟨by decide +kernel, rfl⟩, ⟨taken_by rfl, by decide +kernel, by decide⟩,
    Option.isSome_iff_exists.mp (by decide +kernel), Option.isSome_iff_exists.mp (by decide +kernel)⟩

/-- A silenced incident whose re-sound has run out. -/
def silent : Incident := { fire 2 true with resound := some 5000#32 }

theorem test_hyps_SilenceAndResound :
    Taken .silence (burning (fire 2 false)) ∧ (∀ i ∈ (burning (fire 2 false)).it.incidents, i.id ≠ (2#8 : Byte).toNat) ∧
    findIncident (burning (fire 2 false)) (1#8 : Byte).toNat = some (fire 2 false) ∧
    (3600 < wordOf 0x0E#8 0x11#8 ∧ ¬ 3600 < wordOf 0x0E#8 0x10#8) ∧
    (Taken .silence (burning (fire 1 false)) ∧ findIncident (burning (fire 1 false)) 1 = some (fire 1 false) ∧
      (fire 1 false).level = 1) ∧
    findIncident (burning silent) 1 = some silent ∧ HasRunOut silent.resound (burning silent).now :=
  ⟨taken_by rfl, by decide +kernel, by decide +kernel, by decide, ⟨taken_by rfl, by decide +kernel, rfl⟩,
    by decide +kernel, out_by rfl⟩

/-- An ACKED incident whose last spark was just Q before now, and its mill with the valve at rest or not. -/
def quiet : Incident :=
  { fire 3 true with primary := { (fire 3 true).primary with lastSpark := some (5000#32 - 10000#32) } }

def quietBusy : State :=
  { burning quiet with vg := { mill.vg with
      valves := [(0, { valveRun with queue := [{ openAt := 6000#32, closeAt := 6500#32, sparks := 1 }] })] } }

theorem quiet_is_quiet : ∀ o t e, originOn quiet 0 = some o → lastSparkOf o mill.now = some t →
    Table.get mill.model.ducts 0 = some e → (e.quiet : Int) ≤ (mill.now - t).toInt := by
  intro o t e ho ht he
  cases he
  cases ho
  cases ht
  decide

theorem test_hyps_ResetClosesIncident :
    (Taken .resetIncident (burning (fire 3 false)) ∧
      findIncident (burning (fire 3 false)) 1 = some (fire 3 false) ∧ (fire 3 false).acked = false) ∧
    (Taken .resetIncident (burning (fire 3 true)) ∧ (fire 3 true).acked = true ∧ originDucts (fire 3 true) = [] ++ 0 :: [] ∧
      ¬ ∀ o t e, originOn (fire 3 true) 0 = some o → lastSparkOf o mill.now = some t →
        Table.get mill.model.ducts 0 = some e → (e.quiet : Int) ≤ (mill.now - t).toInt) ∧
    (Taken .resetIncident quietBusy ∧ findIncident quietBusy 1 = some quiet ∧ originDucts quiet = [] ++ 0 :: [] ∧
      ¬ ∀ v, Table.get quietBusy.vg.valves 0 = some v → v.state = .idle ∧ v.queue = []) ∧
    (Taken .resetIncident (burning quiet) ∧ findIncident (burning quiet) 1 = some quiet ∧
      (∀ d ∈ originDucts quiet, Table.get mill.model.ducts d ≠ none) ∧
      ∀ v, Table.get (burning quiet).vg.valves 0 = some v → v.state = .idle ∧ v.queue = []) := by
  refine ⟨⟨taken_by rfl, by decide +kernel, rfl⟩, ⟨taken_by rfl, rfl, rfl, fun h => ?_⟩,
    ⟨taken_by rfl, by decide +kernel, rfl, fun h => ?_⟩, taken_by rfl, by decide +kernel, by decide +kernel, fun v h => ?_⟩
  · exact absurd (h _ _ _ rfl rfl rfl) (by decide)
  · exact absurd (h _ rfl).2 (by decide)
  · cases h; decide

/-- A wall in WARNING for an incident, asked for by hand too or not. -/
def warned (manual : Bool) : Wall :=
  { wallRun with state := .warning, warning := some 9000#32, causes := { incident := true, manual := manual, circuit := false } }

/-- The close returns the gate of duct 0, and reaches the wall in WARNING but not the one in NORMAL. -/
theorem test_hyps_ResetClosesIncident_close :
    (∃ e, 0 ∈ originDucts quiet ∧ Table.get (burning quiet).model.ducts 0 = some e ∧ e.gatePresent = true ∧
      ∃ g, Table.get (burning quiet).gs e.group = some g ∧ g.state = .running) ∧
    (Table.get mill.model.walls 0 = some wall0 ∧ ∀ manual,
      Table.get (withWall (warned manual)).cc.walls 0 = some (warned manual) ∧ (warned manual).state = .warning ∧
      (warned manual).causes.incident = true ∧ (warned manual).causes.manual = manual ∧ wall0.compA = 0 ∧
      ClearOver (withWall (warned manual)) wall0.compA ∧
      ∀ c, wall0.compB = some c → ClearOver (withWall (warned manual)) c) ∧
    (Table.get mill.cc.walls 0 = some wallRun ∧ wallRun.state ≠ .warning) :=
  ⟨⟨_, by decide, rfl, rfl, _, rfl, rfl⟩, ⟨rfl, fun _ => ⟨rfl, rfl, rfl, rfl, rfl, fun _ h => (nomatch h),
    fun _ _ _ h => (nomatch h)⟩⟩, rfl, by decide⟩

/-- Sixteen incidents of one level, none with a merged origin. -/
def crowd (level : Nat) : State :=
  { mill with it := { mill.it with
      lastId := 255
      incidents := (List.range 16).map fun n => { fire level false with
        id := n + 1, primary := { (fire level false).primary with id := .compartment (n + 2) } } } }

theorem crowd_one_bounds : Bounds (crowd 1) := by constructor <;> decide +kernel
theorem crowd_two_bounds : Bounds (crowd 2) := by constructor <;> decide +kernel

/-- A full table without a level-1 incident merges duct 0 into its first. -/
theorem crowd_merges : ∃ i, MergedInto (crowd 2) (.duct 0) i ∧ i.level = 2 ∧ i.sparks = 1 := by
  have apart : ∀ i ∈ (crowd 2).it.incidents, ¬ 0 ∈ originCompartments (crowd 2).model i := by decide +kernel
  have level : ∀ i ∈ (crowd 2).it.incidents, i.level ≤ 2 := by decide +kernel
  refine ⟨_, ⟨[], _, rfl, ⟨by decide +kernel, .inr fun x hx _ => ?_⟩, fun _ h => (nomatch h), fun j hj _ => ?_⟩, rfl, rfl⟩
  · rintro ⟨c, hc, hm⟩
    have h0 : compartmentOf (crowd 2).model (.duct 0) = some 0 := by decide +kernel
    rw [h0] at hc; cases hc
    exact apart x hx hm
  · exact level j (List.mem_cons_of_mem _ hj)

theorem test_hyps_NewOriginsArePlaced :
    (Bounds mill ∧ mill.it.incidents.length < 16) ∧
    (Bounds (crowd 1) ∧ (crowd 1).it.incidents.length = 16 ∧
      (crowd 1).it.incidents.head?.map (fun i => i.level) = some 1) ∧
    (Bounds (crowd 2) ∧ (crowd 2).it.incidents.length = 16 ∧ (∀ i ∈ (crowd 2).it.incidents, i.level ≠ 1) ∧
      ∃ i, MergedInto (crowd 2) (.duct 0) i) ∧
    (Taken .manualAlarm mill ∧ Table.get mill.model.compartments 7 = none) ∧
    (Table.get mill.model.compartments 1 ≠ none ∧ incidentOf mill (.compartment 1) = none) ∧
    (Taken .manualAlarm (crowd 2) ∧ ∃ i, incidentOf (crowd 2) (.compartment 2) = some i) :=
  ⟨⟨mill_bounds, by decide⟩, ⟨crowd_one_bounds, by decide +kernel, by decide +kernel⟩,
    ⟨crowd_two_bounds, by decide +kernel, by decide +kernel, crowd_merges.imp fun _ h => h.1⟩, ⟨taken_by rfl, rfl⟩,
    ⟨by decide +kernel, rfl⟩, taken_by rfl, Option.isSome_iff_exists.mp (by decide +kernel)⟩

/-- The last allocated id is 255 and the ids 1 to 15 are held: 16 follows. -/
theorem test_hyps_NewOriginsArePlaced_id :
    (let s : State := { crowd 2 with it := { (crowd 2).it with incidents := (crowd 2).it.incidents.take 15 } };
     s.it.incidents.length < 16 ∧ s.it.lastId = 255 ∧ (placeOrigin (.duct 0) 2 .confirm none s).2.1 = 16) ∧
    (crowd 2).it.incidents.head?.map (fun i => i.level) = some 2 :=
  ⟨by decide +kernel, by decide +kernel⟩

def waiting : Incident := { fire 2 false with unacked := some 5000#32 }

theorem test_hyps_RiseTakesEachLevel :
    (findIncident (burning (fire 1 false)) 1 = some (fire 1 false) ∧ (fire 1 false).level < 2 ∧ 2 ≤ 3) ∧
    ((fire 1 false).primary.id = .duct 0 ∧ Table.get mill.model.ducts 0 = some duct0 ∧ 0 ∈ originDucts (fire 1 false) ∧
      duct0.gatePresent = true ∧ 0 ∈ originCompartments mill.model (fire 1 false) ∧
      ∃ w ∈ mill.model.walls, w.2.compA = 0) ∧
    (findIncident (burning (fire 2 false)) 1 = some (fire 2 false) ∧ 2 ≤ (fire 2 false).level) ∧
    findIncident (burning waiting) 1 = some waiting ∧ HasRunOut waiting.unacked (burning waiting).now :=
  ⟨by decide +kernel, by decide +kernel, by decide +kernel, by decide +kernel, out_by rfl⟩

/-- A spark of detector 1 at 4.9 s, conveying at 20 m/s, 6 m from the gate: 272 ms at 22 m/s, which a gate of 1 s does not
reach; an action that stands, none, and a full list. -/
theorem test_hyps_RiseTakesEachLevel_demands :
    (∃ v ge g de, Table.get mill.tc 0 = some v ∧ v.state = .conveying ∧ Table.get mill.model.gates 0 = some ge ∧
      Table.get mill.vg.gates 0 = some g ∧ g.state ≠ .diverted ∧ detectorAt mill.model 1 = some de ∧
      de.gateDist.getD 0 * 1000 / (v.vf.getD 0 * (100 + duct0.tolerance) / 100) = 272) ∧
    gateLate 0 1 4900#32 mill = true ∧ gateLate 0 1 5728#32 mill = false ∧
    (∀ e, Table.get mill.model.ducts 1 = some e → e.gatePresent = false) ∧
    (let a : Action := { kind := .divert, target := 0, issuedAt := 4000#32, result := .pending };
     (∃ x ∈ ({ fire 2 false with actions := [a] } : Incident).actions, x.kind = .divert ∧ x.target = 0) ∧
     (∀ x ∈ (fire 2 false).actions, ¬ (x.kind = .divert ∧ x.target = 0)) ∧
     ∀ x ∈ ({ fire 2 false with actions := List.replicate 24 a } : Incident).actions,
       ¬ (x.kind = .release ∧ x.target = 0)) := by
  refine ⟨⟨_, _, _, _, rfl, rfl, rfl, rfl, by decide, rfl, by decide⟩, by decide +kernel, by decide +kernel,
    fun e h => ?_, by decide +kernel⟩
  cases h

def resting : Incident := { fire 1 false with quiet := some 5000#32 }

theorem test_hyps_IncidentTimersRunOut :
    (findIncident (burning resting) 1 = some resting ∧ HasRunOut resting.quiet (burning resting).now ∧
      resting.primary.id = .duct 0 ∧ Table.get (burning resting).vg.valves 0 = some valveRun ∧
      Table.get (burning resting).model.ducts 0 = some duct0 ∧ valveRun.state = .idle ∧ valveRun.queue = []) ∧
    (∃ v, Table.get { quietBusy with it := (burning resting).it }.vg.valves 0 = some v ∧ ¬ (v.state = .idle ∧ v.queue = [])) ∧
    ∃ x, quiet.primary.lastSpark = some x ∧ 600000 ≤ ((x + 600000#32) - x).toInt :=
  ⟨⟨by decide +kernel, out_by rfl, rfl, rfl, rfl, rfl, rfl⟩, ⟨_, rfl, by decide⟩, _, rfl, by decide⟩

/-- What the small mill's detectors at 1, upstream, and 2, downstream, meet whatever its incidents. -/
theorem spark_accepted (it : IncidentTable) (h : it.sparks = mill.it.sparks) (addr : LoopAddr) (role : Role) (dist : Option Nat)
    (ha : addr = 1#6 ∧ role = .upstream ∧ dist = some 300 ∨ addr = 2#6 ∧ role = .downstream ∧ dist = none) :
    let s : State := { mill with it := it }
    s.lc.state = .up ∧ NoReadWaits s ∧ s.lp.mode = .run ∧
    (∃ r, Table.get s.lc.roster addr.toNat = some r ∧ r.kind = .detector role ∧ r.toggle ≠ some false ∧
      r.state ≠ .isolated ∧ r.duct = 0) ∧
    (∀ w, Table.get s.lc.walks 0 = some w → w.active = false) ∧ reportKindOf 0#2 = some .spark ∧ ReportKind.spark ≠ .test ∧
    Table.get s.model.ducts 0 = some duct0 ∧ Table.get s.it.sparks 0 = some { ring := [], total := 0, wrapped := false } ∧
    (∃ v, Table.get s.tc 0 = some v) ∧ Table.get s.model.valves 0 = some valve0 ∧ Table.get s.vg.valves 0 = some valveRun ∧
    ∃ de, detectorAt s.model addr.toNat = some de ∧ de.dist = dist := by
  have walk : ∀ w, Table.get mill.lc.walks 0 = some w → w.active = false := fun w h => by cases h; rfl
  have ring : Table.get it.sparks 0 = some { ring := [], total := 0, wrapped := false } := by rw [h]; rfl
  rcases ha with ⟨rfl, rfl, rfl⟩ | ⟨rfl, rfl, rfl⟩ <;>
    exact ⟨rfl, .inr rfl, rfl, ⟨_, rfl, rfl, by decide, by decide, rfl⟩, walk, rfl, by decide, rfl, ring, ⟨_, rfl⟩, rfl, rfl,
      _, rfl, rfl⟩

/-- The incident found; one opened, with room and in the place of a level-1 incident; one merged into. -/
theorem test_hyps_AcceptedSparksAreRecordedAndJudged :
    (Bounds (burning (fire 2 false)) ∧ OriginsDistinct (burning (fire 2 false)) ∧
      incidentOf (burning (fire 2 false)) (.duct 0) = some (fire 2 false) ∧ 2 = (fire 2 false).level ∧
      1 = (fire 2 false).sparks ∧ false = (fire 2 false).causes.contains .confirm) ∧
    (Bounds mill ∧ OriginsDistinct mill ∧ incidentOf mill (.duct 0) = none ∧ mill.it.incidents.length < 16) ∧
    (Bounds (crowd 1) ∧ OriginsDistinct (crowd 1) ∧ incidentOf (crowd 1) (.duct 0) = none ∧
      ∃ i ∈ (crowd 1).it.incidents, i.level = 1) ∧
    (Bounds (crowd 2) ∧ OriginsDistinct (crowd 2) ∧ incidentOf (crowd 2) (.duct 0) = none ∧
      (crowd 2).it.incidents.length = 16 ∧ (∀ j ∈ (crowd 2).it.incidents, j.level ≠ 1) ∧
      ∃ i, MergedInto (crowd 2) (.duct 0) i ∧ i.level = 2 ∧ i.sparks = 1) ∧
    (∀ s ∈ [burning (fire 2 false), mill, crowd 1, crowd 2], s = { mill with it := s.it } ∧ s.it.sparks = mill.it.sparks) := by
  refine ⟨⟨burning_bounds, by unfold OriginsDistinct; decide +kernel, by decide +kernel, rfl, rfl, by decide⟩,
    ⟨mill_bounds, by unfold OriginsDistinct; decide +kernel, rfl, by decide⟩,
    ⟨crowd_one_bounds, by unfold OriginsDistinct; decide +kernel, by decide +kernel, by decide +kernel⟩,
    ⟨crowd_two_bounds, by unfold OriginsDistinct; decide +kernel, by decide +kernel, by decide +kernel, by decide +kernel,
      crowd_merges⟩, fun s h => ?_⟩
  simp only [List.mem_cons, List.not_mem_nil, or_false] at h
  rcases h with rfl | rfl | rfl | rfl <;> exact ⟨rfl, rfl⟩

/-- Duct 0 in a held incident, one spark short of a wrap of its total count. -/
def wrapping : State :=
  { burning (fire 1 false) with it := { (burning (fire 1 false)).it with
      sparks := [(0, { ring := [], total := 65535, wrapped := false })] } }

theorem wrapping_bounds : Bounds wrapping := by constructor <;> decide +kernel

/-- A first downstream EMBER adds EMBER and CONFIRM, and wraps the total. -/
theorem test_hyps_AcceptedSparksAreRecordedAndJudged_causes :
    Bounds wrapping ∧ OriginsDistinct wrapping ∧ incidentOf wrapping (.duct 0) = some (fire 1 false) ∧
    (fire 1 false).causes = [.firstSpark] ∧ (fire 1 false).causes.contains .confirm = false ∧
    (∃ ring, Table.get wrapping.it.sparks 0 = some ring ∧ ¬ ring.total < 65535) ∧
    (after (.sparkReport 2#6 false 1#2 0#8) wrapping fun t => t.it.incidents.map fun i => i.causes) =
      some [[.firstSpark, .ember, .confirm]] ∧
    (after (.sparkReport 2#6 false 1#2 0#8) wrapping fun t => t.lp.notices.countP fun n => n.body == .counterWrap 0) =
      some 1 :=
  ⟨wrapping_bounds, by unfold OriginsDistinct; decide +kernel, by decide +kernel, rfl, by decide, ⟨_, rfl, by decide⟩,
    by decide +kernel, by decide +kernel⟩

def walking : State := { mill with lc := { mill.lc with walks := [(0, { walkOff with active := true })] } }

/-- A test of every detector, its window open to 5 s. -/
def testSlot : LoopCommand := .test 63#6 0#6 false (some 5000#32) []

theorem test_hyps_OtherReportsAreDisposedOf :
    (mill.lc.state = .up ∧ NoReadWaits mill) ∧ ((3#2 : BitVec 2).toNat = 3) ∧
    (∃ r, Table.get (withDevice { device0 with toggle := some true }).lc.roster (1#6 : LoopAddr).toNat = some r ∧
      r.kind = .detector .upstream ∧ r.toggle = some true ∧ (2#2 : BitVec 2).toNat < 3) ∧
    (Table.get mill.lc.roster (62#6 : LoopAddr).toNat = none ∧ (1#2 : BitVec 2).toNat < 2) ∧
    (Table.get mill.lc.roster (10#6 : LoopAddr).toNat = some flow0 ∧ flow0.kind = .flow) ∧
    (Table.get millConfig.lc.roster (1#6 : LoopAddr).toNat = some device0 ∧ device0.toggle ≠ some true ∧
      millConfig.lp.mode ≠ .run) ∧
    (walking.lp.mode = .run ∧ ∃ w, Table.get walking.lc.walks device0.duct = some w ∧ w.active = true) ∧
    (∀ target mask due window answered, mill.lc.slot ≠ some (.test target mask due (some window) answered)) ∧
    (withSlot (some testSlot)).lc.slot = some (.test 63#6 0#6 false (some 5000#32) []) :=
  ⟨⟨rfl, .inr rfl⟩, rfl, ⟨_, rfl, rfl, rfl, by decide⟩, by decide +kernel, by decide +kernel,
    by decide +kernel, ⟨rfl, _, rfl, rfl⟩, fun _ _ _ _ _ h => (nomatch h), rfl⟩

/-- A test of the addresses 8 to 15, whose window is open: it matches 9 and not 1; and a loop that is IDLE or DOWN. -/
theorem test_hyps_OtherReportsAreDisposedOf_test :
    (Table.get mill.lc.roster (9#6 : LoopAddr).toNat = none ∧ Table.get mill.lc.roster (0#6 : LoopAddr).toNat = none) ∧
    (∀ b, b < 6 → (7#6 : LoopAddr).getLsbD b = false → (9#6 : LoopAddr).getLsbD b = (8#6 : LoopAddr).getLsbD b) ∧
    ¬ ((8#6 : LoopAddr) = 63#6 ∨
      ∀ b, b < 6 → (7#6 : LoopAddr).getLsbD b = false → (1#6 : LoopAddr).getLsbD b = (8#6 : LoopAddr).getLsbD b) ∧
    (withSlot (some (.test 8#6 7#6 false (some 5000#32) []))).lc.slot = some (.test 8#6 7#6 false (some 5000#32) []) ∧
    NoReadWaits (withSlot (some (.test 8#6 7#6 false (some 5000#32) []))) ∧
    State.reset.lc.state = .idle ∧ { mill with lc := { mill.lc with state := .down } }.lc.state = .down :=
  ⟨by decide +kernel, by decide, by decide, rfl, .inl (by decide), rfl, rfl⟩

def duePoll : State := withDevice { device0 with pollDue := true, pollAt := 5000#32 }
def owed : State := { mill with lc := { mill.lc with ackOwed := some (62, true) } }

theorem test_hyps_LoopFramesAreChosenInOrder :
    (duePoll.lc.state = .up ∧ duePoll.lc.roster = [] ++ (1, { device0 with pollDue := true, pollAt := 5000#32 }) ::
        [(10, flow0)] ∧ ∀ x ∈ [(10, flow0)], x.2.pollDue = true → ¬ 0 < (5000#32 - x.2.pollAt).toInt) ∧
    (owed.lc.state = .up ∧ (∀ x ∈ owed.lc.roster, x.2.pollDue = false) ∧ owed.lc.ackOwed = some (62, true) ∧ 62 ≤ 62) ∧
    (mill.lc.ackOwed = none ∧ (withSlot (some (.read 1 true 1 true 5020#32))).lc.slot =
      some (.read 1 true 1 true 5020#32)) ∧
    ((withSlot (some (.test 8#6 7#6 true none []))).lc.slot = some (.test 8#6 7#6 true none [])) ∧
    (mill.lc.slot = none ∧ (withDevice device0).lc.roster = [(1, device0)] ++ (10, flow0) :: [] ∧
      ∀ x ∈ [(1, device0)], 0 < (x.2.pollAt - flow0.pollAt).toInt) :=
  ⟨⟨rfl, rfl, by decide +kernel⟩, ⟨rfl, by decide +kernel, rfl, by decide⟩, ⟨rfl, rfl⟩, rfl, rfl, rfl, by decide +kernel⟩

/-- An ACK owed to address 63, a read that waits for its answer, an empty roster, and a loop that is not UP. -/
theorem test_hyps_LoopFramesAreChosenInOrder_waiting :
    (∀ a toggle, ({ mill.lc with ackOwed := some (63, true) } : LoopController).ackOwed = some (a, toggle) →
      a < 1 ∨ 62 < a) ∧
    (withSlot (some (.read 1 true 1 false 5020#32))).lc.slot = some (.read 1 true 1 false 5020#32) ∧
    ({ mill with lc := { mill.lc with roster := [] } }.lc.roster = [] ∧
      ∀ x ∈ { mill with lc := { mill.lc with roster := [] } }.lc.roster, x.2.pollDue = false) ∧
    State.reset.lc.state ≠ .up := by
  refine ⟨fun a toggle h => ?_, rfl, ⟨rfl, fun _ h => (nomatch h)⟩, by decide⟩
  cases h; exact .inr (by decide)

theorem test_hyps_PollAnswersSetDeviceStates :
    mill.lc.state = .up ∧ mill.lc.state ≠ .idle ∧ Table.get mill.lc.roster (1#6 : LoopAddr).toNat = some device0 ∧
    device0.kind = .detector .upstream ∧ NoReadWaits mill ∧ mill.lc.slot = none ∧ mill.lc.autoReads = [] ∧
    (withSlot (some testSlot)).lc.slot ≠ none ∧ NoReadWaits (withSlot (some testSlot)) :=
  ⟨rfl, by decide, by decide +kernel, rfl, .inr rfl, rfl, rfl, by decide, .inl (by decide)⟩

def down : State :=
  { mill with
    lp := { mill.lp with mode := .config }
    lc := { mill.lc with state := .down, silence := none, retry := some 5000#32,
                         roster := [(1, { device0 with state := .missing, misses := 3 }),
                                    (10, { flow0 with state := .missing, misses := 3 })] } }

/-- 12 R186, 02 R25: an answer of the other kind of device is one loop error and one miss in its slot, and no return to UP. -/
theorem test_hyps_PollAnswersSetDeviceStates_kinds :
    (mill.lc.state ≠ .idle ∧ Table.get mill.lc.roster (10#6 : LoopAddr).toNat = some flow0 ∧ flow0.kind = .flow ∧
      after (.detectorPollAnswer 10#6 false false true) mill (fun t =>
        (t.lc.errors, (Table.get t.lc.roster 10).map fun r => r.misses, t.lc.autoReads)) = some (1, some 1, [])) ∧
    (down.lc.state ≠ .idle ∧ (∃ r, Table.get down.lc.roster (1#6 : LoopAddr).toNat = some r ∧ r.kind ≠ .flow) ∧
      after (.flowSensorAnswer 1#6 900#16) down (fun t => (t.lc.errors, t.lc.state)) = some (1, .down)) :=
  ⟨⟨by decide, by decide +kernel, rfl, by decide +kernel⟩, by decide, ⟨_, rfl, by decide⟩, by decide +kernel⟩

theorem test_hyps_LoopFallsAndReturns :
    (mill.lc.state = .up ∧ HasRunOut mill.lc.silence 6000#32) ∧
    (down.lc.state = .down ∧ HasRunOut down.lc.retry down.now ∧ down.lc.retryPos < 1) ∧
    (down.lp.mode = .config ∧ NoReadWaits down ∧
      ∃ r, Table.get down.lc.roster (10#6 : LoopAddr).toNat = some r ∧ r.kind = .flow ∧ r.state = .missing) :=
  ⟨⟨rfl, out_by rfl⟩, ⟨rfl, out_by rfl, by decide⟩, rfl, .inr rfl, _, rfl, rfl, rfl⟩

theorem test_hyps_LoopFallsAndReturns_frames :
    down.lc.state = .down ∧ ((2#2 : BitVec 2).toNat < 3 ∧ (100#7 : BitVec 7).toNat ≤ 100) ∧
    (∃ r, Table.get down.lc.roster (1#6 : LoopAddr).toNat = some r ∧ r.kind ≠ .flow) ∧
    { down with lp := { down.lp with mode := .run } }.lp.mode = .run :=
  ⟨rfl, by decide, ⟨_, rfl, by decide⟩, rfl⟩

theorem test_hyps_LoopCommandsRunAndEnd :
    (Taken .readDetector (withSlot (some testSlot)) ∧ (withSlot (some testSlot)).lc.slot ≠ none) ∧
    (Taken .readDetector mill ∧ mill.lc.slot = none ∧ mill.lc.state ≠ .down ∧
      (∀ r, Table.get mill.lc.roster (10#8 : Byte).toNat = some r → r.kind = .flow) ∧
      Table.get mill.lc.roster (1#8 : Byte).toNat = some device0 ∧ device0.kind ≠ .flow) ∧
    (Taken .detectorTest mill ∧ (63 < (64#8 : Byte).toNat ∧ ¬ 63 < (63#8 : Byte).toNat)) ∧
    ((withSlot (some (.read 1 false 3 false 5000#32))).lc.slot = some (.read 1 false 3 false 5000#32) ∧
      HasRunOut (some 5000#32) mill.now ∧ ∀ x ∈ (withSlot (some (.read 1 false 3 false 5000#32))).lc.autoReads, false) ∧
    ((100#7 : BitVec 7).toNat ≤ 100) ∧
    ((withSlot (some testSlot)).lc.slot = some (.test 63#6 0#6 false (some 5000#32) []) ∧
      (withSlot (some testSlot)).lc.autoReads = [] ∧ Table.wf (withSlot (some testSlot)).lc.roster = true) := by
  refine ⟨⟨taken_by rfl, by decide⟩, ⟨taken_by rfl, rfl, by decide, fun r h => ?_, by decide +kernel, by decide⟩,
    ⟨taken_by rfl, by decide⟩, ⟨rfl, out_by rfl, fun x h => (nomatch h)⟩, by decide, rfl, rfl, by decide +kernel⟩
  cases h; rfl

theorem test_hyps_LoopCommandsRunAndEnd_status :
    (mill.lc.state = .up ∧ 100 < (101#7 : BitVec 7).toNat) ∧ NoReadWaits mill ∧
    ∀ automatic n due expiry, mill.lc.slot ≠ some (.read (1#6 : LoopAddr).toNat automatic n due expiry) :=
  ⟨⟨rfl, by decide⟩, .inr rfl, fun _ _ _ _ h => (nomatch h)⟩

/-- A loop that is UP, with the reads of 1 and 2 pending and a command in the slot. -/
def crowdedSlot (c : Option LoopCommand) : State := { mill with lc := { mill.lc with slot := c, autoReads := [1, 2] } }

/-- A read of 1 and a test whose time runs out while the read of 2 waits: that read enters the slot. -/
theorem test_hyps_LoopCommandsRunAndEnd_waiting :
    (crowdedSlot none).lc.state = .up ∧ NoReadWaits (crowdedSlot (some testSlot)) ∧ AutoReadsRise (crowdedSlot none) ∧
    HasRunOut (some 5000#32) (crowdedSlot none).now ∧ Table.wf (crowdedSlot none).lc.roster = true ∧
    after .readStatusAttemptExpiry (crowdedSlot (some (.read 1 true 3 false 5000#32))) (fun t => (t.lc.slot, t.lc.autoReads)) =
      some (some (.read 2 true 1 true 5020#32), [2]) ∧
    after (.statusAnswer 1#6 0#8 5#7) (crowdedSlot (some (.read 1 false 1 false 5020#32)))
      (fun t => (t.lc.slot, t.lc.autoReads)) = some (some (.read 2 true 1 true 5020#32), [2]) ∧
    after .detectorTestWindowExpiry (crowdedSlot (some testSlot)) (fun t => (t.lc.slot, t.lc.autoReads)) =
      some (some (.read 1 true 1 true 5020#32), [1, 2]) :=
  ⟨rfl, .inl (by decide), by unfold AutoReadsRise; decide +kernel, out_by rfl, by decide +kernel, by decide +kernel,
    by decide +kernel, by decide +kernel⟩

theorem test_hyps_ReadingsMoveTheVelocity :
    (mill.lc.state = .up ∧ mill.lp.mode = .run ∧ Table.get mill.lc.roster (10#6 : LoopAddr).toNat = some flow0 ∧
      flow0.kind = .flow ∧ flow0.state = .normal ∧ (∃ v, Table.get mill.tc flow0.duct = some v ∧ v.vf = some 2000) ∧
      Table.get mill.model.ducts flow0.duct = some duct0) ∧
    ∃ v, Table.get { mill with now := 5900#32 }.tc 0 = some v ∧ Table.get mill.model.ducts 0 ≠ none ∧
      HasRunOut v.stale 5900#32 :=
  ⟨⟨rfl, rfl, by decide +kernel, rfl, rfl, ⟨_, rfl, rfl⟩, rfl⟩, _, rfl, by decide +kernel, out_by rfl⟩

/-- The first answer after COMMIT finds the record UNKNOWN and no velocity. -/
theorem test_hyps_ReadingsMoveTheVelocity_first :
    let s : State := { mill with
      lc := { mill.lc with roster := [(10, { flow0 with state := .unknown })] }
      tc := [(0, { vf := none, raw := none, readAt := none, stale := none, state := .stale, transit := none })] }
    s.lc.state = .up ∧ s.lp.mode = .run ∧
    (∃ r, Table.get s.lc.roster (10#6 : LoopAddr).toNat = some r ∧ r.kind = .flow ∧ r.state = .unknown) ∧
    ∃ v, Table.get s.tc 0 = some v ∧ v.vf = none :=
  ⟨rfl, rfl, ⟨_, rfl, rfl, rfl⟩, _, rfl, rfl⟩

/-- The same answer in CONFIG, with the loop UP. -/
theorem test_hyps_ReadingsMoveTheVelocity_config :
    millConfig.lc.state = .up ∧ millConfig.lp.mode ≠ .run ∧
    Table.get millConfig.lc.roster (10#6 : LoopAddr).toNat = some flow0 ∧ flow0.kind = .flow ∧
    after (.flowSensorAnswer 10#6 3000#16) millConfig (fun t => decide (t.tc = millConfig.tc ∧ t.lc.silence = some 6000#32)) =
      some true :=
  ⟨rfl, by decide, by decide +kernel, rfl, by decide +kernel⟩

theorem test_hyps_TransitsStayWithinTheirBound :
    300 ≤ duct0.vMin ∧ duct0.vMin < duct0.vMax ∧ duct0.tolerance ≤ 50 ∧ duct0.vMin ≤ 1000 ∧
    ceilDiv (5000 * 1000) duct0.vMin ≤ duct0.wMax := by decide

/-- Two windows that stand apart by one more than M. -/
def apartWindows : List Window :=
  [{ openAt := 10000#32, closeAt := 10500#32, sparks := 1 }, { openAt := 10601#32, closeAt := 10900#32, sparks := 1 }]

theorem apart_law : QueueLaw 4000#32 100 apartWindows :=
  ⟨by decide, by unfold inRange; decide +kernel, by decide +kernel⟩

theorem lab_accepted : EntriesAccepted lab := by constructor <;> decide +kernel

/-- Eight windows of 400 ms, one a second. -/
def eight : List Window :=
  (List.range 8).map fun k => { openAt := BitVec.ofNat 32 (10000 + 1000 * k), closeAt := BitVec.ofNat 32 (10400 + 1000 * k),
                                sparks := 1 }

def between : Window := { openAt := 10550#32, closeAt := 10850#32, sparks := 1 }
def ahead : Window := { openAt := 9500#32, closeAt := 9800#32, sparks := 1 }

theorem test_hyps_WindowQueueKeepsItsLaw :
    ((mill.now - 4000#32).toNat < 2 ^ 29 ∧ QueuesLaw 4000#32 (withValve { valveRun with queue := apartWindows }) ∧
      ∃ t, step (withValve { valveRun with queue := apartWindows }) = .next t) ∧
    (100 ≤ 1000 ∧ QueueLaw 4000#32 100 eight ∧ eight = [] ++ eight.head (by decide) :: eight.tail ∧ eight.length = 8 ∧
      ∀ w ∈ [between, ahead], inRange 4000#32 w ∧
        (∀ x ∈ eight, (x.closeAt - 4000#32).toNat + 100 < (w.openAt - 4000#32).toNat ∨
          (w.closeAt - 4000#32).toNat + 100 < (x.openAt - 4000#32).toNat) ∧
        ∀ x ∈ eight.tail, (w.openAt - 4000#32).toNat < (x.openAt - 4000#32).toNat) ∧
    (((eight.head (by decide)).openAt - 4000#32).toNat < (between.openAt - 4000#32).toNat ∧
      (ahead.openAt - 4000#32).toNat < ((eight.head (by decide)).openAt - 4000#32).toNat) := by
  refine ⟨⟨by decide, ⟨fun d v e hv he => ?_, fun d v e hv he hc => ?_, lab_accepted, lab_accepted⟩, _, rfl⟩,
    ⟨by decide, ⟨by decide, by unfold inRange; decide +kernel, by decide +kernel⟩, by decide, by decide,
      by unfold inRange; decide +kernel⟩, by decide +kernel⟩
  all_goals
    by_cases hd : 0 = d
    · subst hd; cases hv; cases he; first | exact apart_law | decide
    · simp [withValve, mill, Table.get, hd] at hv

/-- A window that closes just M before the second of the eight opens, and opens just M after the first closes, reaches both;
one that is shorter by a millisecond at each end reaches neither. -/
theorem test_hyps_WindowQueueKeepsItsLaw_reached :
    let w : Window := { openAt := 10500#32, closeAt := 10900#32, sparks := 1 }
    let apart : Window := { openAt := 10501#32, closeAt := 10899#32, sparks := 1 }
    (∀ x ∈ eight.take 2, (w.openAt - 4000#32).toNat ≤ (x.closeAt - 4000#32).toNat + 100 ∧
      (x.openAt - 4000#32).toNat ≤ (w.closeAt - 4000#32).toNat + 100) ∧
    (∀ x ∈ eight.drop 2, (w.closeAt - 4000#32).toNat + 100 < (x.openAt - 4000#32).toNat) ∧ inRange 4000#32 w ∧
    mergeWindow 100 w eight = { openAt := 10000#32, closeAt := 11400#32, sparks := 3 } :: eight.drop 2 ∧
    (eight.take 3).length < 8 ∧ mergeWindow 100 apart (eight.take 3) =
      eight.take 1 ++ apart :: (eight.take 3).drop 1 :=
  ⟨by decide +kernel, by decide +kernel, by unfold inRange; decide +kernel, by decide +kernel, by decide, by decide +kernel⟩

/-- What a valve does with a window: isolated, open, and at rest with its head to come and with its head due. -/
theorem test_hyps_WindowQueueKeepsItsLaw_taken :
    (∀ v, Table.get (withValve v).vg.valves 0 = some v ∧ Table.get (withValve v).model.valves 0 = some valve0) ∧
    ({ valveRun with isolated := true } : Valve).isolated = true ∧
    (valveRun.isolated = false ∧ { valveRun with state := .flowing }.state ≠ .idle ∧ valveRun.state = .idle) ∧
    mergeWindow valve0.minOff between valveRun.queue = between :: [] ∧ 0 < (between.openAt - mill.now).toInt ∧
    ¬ 0 < (({ between with openAt := 5000#32 } : Window).openAt - mill.now).toInt :=
  ⟨fun _ => ⟨rfl, rfl⟩, rfl, ⟨rfl, by decide, rfl⟩, by decide, by decide, by decide⟩

def window : Window := { openAt := 5000#32, closeAt := 5400#32, sparks := 1 }
def later : Window := { openAt := 6000#32, closeAt := 6400#32, sparks := 1 }

def opening : Valve := { valveRun with state := .opening, queue := [window], settleExpiry := some 5000#32 }
def closing : Valve := { valveRun with state := .flowing, flowed := true, queue := [window, later], closeExpiry := some 5000#32 }

theorem test_hyps_ValvesOpenSettleAndClose :
    (∃ v, Table.get (withValve { valveRun with queue := [window], openExpiry := some 5000#32 }).vg.valves 0 = some v ∧
      Table.get mill.model.valves 0 = some valve0 ∧ v.queue = window :: [] ∧ v.state = .idle ∧
      HasRunOut v.openExpiry mill.now) ∧
    (Table.get (withValve opening).vg.valves 0 = some opening ∧ opening.queue = window :: [] ∧
      HasRunOut opening.settleExpiry mill.now ∧ opening.failed = false ∧ incidentOf (withValve opening) (.duct 0) = none) ∧
    (Table.get (withValve { opening with failed := true }).vg.valves 0 = some { opening with failed := true }) ∧
    (incidentOf { withValve opening with it := (burning (fire 2 false)).it } (.duct 0) = some (fire 2 false) ∧
      findIncident { withValve opening with it := (burning (fire 2 false)).it } 1 = some (fire 2 false)) ∧
    (Table.get (withValve closing).vg.valves 0 = some closing ∧ closing.queue = window :: [later] ∧
      HasRunOut closing.closeExpiry mill.now ∧ 0 < (later.openAt - mill.now).toInt) ∧
    (({ closing with queue := [window] } : Valve).queue = window :: []) ∧
    (({ closing with queue := [window, window] } : Valve).queue = window :: window :: [] ∧
      ¬ 0 < (window.openAt - mill.now).toInt) ∧
    (valveRun.state = .idle ∧ opening.state = .opening ∧ closing.state = .flowing) :=
  ⟨⟨_, rfl, rfl, rfl, rfl, out_by rfl⟩, ⟨rfl, rfl, out_by rfl, rfl, rfl⟩, rfl, by decide +kernel,
    ⟨rfl, rfl, out_by rfl, by decide⟩, rfl, ⟨rfl, by decide⟩, rfl, rfl, rfl⟩

theorem test_hyps_ClearValveFailJudgesAfresh :
    (Taken .clearValveFail mill ∧ Table.get mill.vg.valves (15#8 : Byte).toNat = none) ∧
    (Table.get mill.vg.valves (0#8 : Byte).toNat = some valveRun ∧ valveRun.failed = false ∧
      Table.get mill.model.valves (0#8 : Byte).toNat = some valve0) ∧
    (Taken .clearValveFail (withValve { opening with failed := true }) ∧
      Table.get (withValve { opening with failed := true }).vg.valves (0#8 : Byte).toNat =
        some { opening with failed := true }) :=
  ⟨⟨taken_by rfl, rfl⟩, ⟨rfl, rfl, rfl⟩, taken_by rfl, rfl⟩

/-- A gate on its way with this state, owed to incident 1. -/
def gateMoving (g : GateState) : Gate := { gateRun with state := g, travel := some 5000#32, pending := some 1 }

def diverting : Incident :=
  { fire 2 false with actions := [{ kind := .divert, target := 0, issuedAt := 4000#32, result := .pending }] }

def gateFire : State := { withGate (gateMoving .toDivert) with it := (burning diverting).it }

theorem test_hyps_GatesTakeDemandsAndJam :
    (Table.get mill.vg.gates 0 = some gateRun ∧ Table.get mill.model.gates 0 = some gate0 ∧ gateRun.isolated = false ∧
      gateRun.state = .normal) ∧
    (∀ g commanded, Table.get (withGate { gateMoving g with commanded := commanded }).vg.gates 0 =
      some { gateMoving g with commanded := commanded } ∧ (gateMoving g).isolated = false) ∧
    (Table.get (withGate { gateRun with isolated := true }).vg.gates 0 = some { gateRun with isolated := true }) ∧
    (inputMade mill gate0.positionIn = false ∧
      inputMade { mill with pi := { mill.pi with debounced := [(1, true)] } } gate0.positionIn = true) ∧
    HasRunOut (gateMoving .toNormal).travel mill.now ∧ incidentOf (withGate (gateMoving .toDivert)) (.duct 0) = none ∧
    (incidentOf gateFire (.duct 0) = some diverting ∧ findIncident gateFire 1 = some diverting ∧
      (gateMoving .toDivert).pending = some diverting.id ∧ diverting.level = 2) :=
  ⟨⟨rfl, rfl, rfl, rfl⟩, fun _ _ => ⟨rfl, rfl⟩, rfl, ⟨by decide +kernel, by decide +kernel⟩, out_by rfl, rfl,
    by decide +kernel⟩

/-- A gate whose move to DIVERTED runs out of time, while its duct is in an incident at level 3. -/
theorem test_hyps_GatesTakeDemandsAndJam_incident :
    let g : Gate := { gateRun with state := .toDivert, travel := some 5000#32, pending := some 1 }
    let s : State := { withGate g with it := (burning (fire 3 false)).it }
    Table.get s.vg.gates 0 = some g ∧ HasRunOut g.travel s.now ∧ incidentOf s (.duct 0) = some (fire 3 false) :=
  ⟨rfl, out_by rfl, by decide +kernel⟩

def stopped : Group := { groupRun with state := .stopped }
def stoppedFire : State := { withGroup stopped with it := (burning (fire 3 false)).it }
def stoppedWall : State := { withGroup stopped with cc := (withWall { wallRun with state := .warning }).cc }

theorem test_hyps_GroupRequestsAreInterlocked :
    (Taken .restartGroup mill ∧ Table.get mill.gs (5#8 : Byte).toNat = none) ∧
    (Table.get mill.gs (0#8 : Byte).toNat = some groupRun ∧ Table.get mill.model.groups (0#8 : Byte).toNat = some group0 ∧
      groupRun.isolated = false ∧ groupRun.state ≠ .stopped) ∧
    (Taken .restartGroup (withGroup { groupRun with isolated := true }) ∧
      Table.get (withGroup { groupRun with isolated := true }).gs 0 = some { groupRun with isolated := true }) ∧
    (Taken .restartGroup stoppedFire ∧ Table.get stoppedFire.gs 0 = some stopped ∧ stopped.state = .stopped ∧
      ductsOfGroup stoppedFire.model 0 = [] ++ 0 :: [] ∧ FirstOnDuct stoppedFire 0 (fire 3 false)) ∧
    (Taken .restartGroup stoppedWall ∧ (∀ d ∈ ductsOfGroup stoppedWall.model 0, ClearOnDuct stoppedWall d) ∧
      wallsCrossed stoppedWall.model 0 = [] ++ 0 :: [] ∧
      ∃ x, Table.get stoppedWall.cc.walls 0 = some x ∧ x.state ≠ .normal) ∧
    (Taken .restartGroup (withGroup stopped) ∧
      ∀ w ∈ wallsCrossed (withGroup stopped).model 0, ∀ q, Table.get (withGroup stopped).cc.walls w = some q →
        q.state = .normal) ∧
    Taken .stopGroup mill ∧ Taken .stopGroup (withGroup stopped) ∧ Table.get mill.model.groups 0 ≠ none := by
  refine ⟨⟨taken_by rfl, rfl⟩, ⟨rfl, rfl, rfl, by decide⟩, ⟨taken_by rfl, rfl⟩,
    ⟨taken_by rfl, rfl, rfl, by decide +kernel, [], [], rfl, rfl, by decide +kernel, fun _ h => (nomatch h)⟩,
    ⟨taken_by rfl, fun _ _ _ h => (nomatch h), by decide +kernel, _, rfl, by decide⟩,
    ⟨taken_by rfl, fun w hw q h => ?_⟩, taken_by rfl, taken_by rfl, by decide +kernel⟩
  have hw : w = 0 := by
    have h0 : wallsCrossed (withGroup stopped).model 0 = [0] := by decide +kernel
    rw [h0] at hw; simpa using hw
  subst hw; cases h; rfl

/-- A group held by its first PAUSE. -/
def pausing (p : Priority) : Group :=
  { groupRun with state := .stopping, priority := some p, source := some .host,
                  runner := some { list := .shutdown, step := 2, expiry := some 5000#32, fanProven := false } }

/-- A group whose restart awaits its fan. -/
def starting : Group :=
  { groupRun with state := .starting,
                  runner := some { list := .restart, step := 1, expiry := some 5000#32, fanProven := false } }

theorem holds_run : GroupHolds groupRun := by constructor <;> decide
theorem holds_pausing : GroupHolds (pausing .normal) :=
  ⟨by decide, fun x h => by cases h; decide, by decide, by decide⟩

theorem test_hyps_GroupsKeepTheirRuns :
    (GroupsLaw mill ∧ ∃ t, step mill = .next t) ∧
    GroupsLaw (withGroup (pausing .normal)) ∧ ∃ t, step (withGroup (pausing .normal)) = .next t := by
  refine ⟨⟨⟨by decide, by decide, fun g r h => ?_⟩, _, rfl⟩, ⟨by decide, by decide, fun g r h => ?_⟩, _, rfl⟩
  · cases List.mem_singleton.mp h; exact holds_run
  · cases List.mem_singleton.mp h; exact holds_pausing

/-- Lists that come to a step after one that drives. -/
def listed (st : ListStep) : GroupEntry := { group0 with shutdown := [.drive 9 false, st], restart := [st] }

theorem passes_drive (p : Nat) (on : Bool) (s : State) (e : GroupEntry) (hurried : Prop) :
    PassesAtOnce s e hurried (.drive p on) := .inl (.inl ⟨p, on, rfl⟩)

/-- The small mill with its gate DIVERTED and its group STOPPED. -/
def diverted : State :=
  { withGroup stopped with vg := (withGate { gateRun with state := .diverted, commanded := true }).vg }

theorem test_hyps_StepListsRunInOrder :
    (Table.get (withGroup (pausing .normal)).gs 0 = some (pausing .normal) ∧ (pausing .normal).state = .stopping ∧
      (∀ st ∈ ((listOf (listed (.infeed false)) .shutdown).drop (1 - 1)),
        PassesAtOnce mill (listed (.infeed false)) False st)) ∧
    (Table.get (withGroup (pausing .immediate)).gs 0 = some (pausing .immediate) ∧
      PassesAtOnce mill (listed (.pause 600)) ((pausing .immediate).priority = some .immediate) (.pause 600)) ∧
    (Table.get (withGroup starting).gs 0 = some starting ∧ starting.state = .starting ∧
      (listOf (listed (.fan true)) .restart).drop (1 - 1) = [.fan true] ∧
      PassesAtOnce mill (listed (.fan true)) False (.fan true) ∧ inputMade mill group0.fanIn = true ∧
      PassesAtOnce mill (listed (.infeed true)) False (.infeed true) ∧
      inputMade { mill with pi := { mill.pi with debounced := [] } } group0.fanIn ≠ true) ∧
    ((listOf (listed (.await 0 true 1)) .shutdown).drop (1 - 1) = [.drive 9 false] ++ .await 0 true 1 :: [] ∧
      inputMade mill 0 ≠ true ∧ ∃ x, (pausing .normal).runner = some x ∧ x.list = .shutdown) ∧
    ((listOf (listed (.await 0 true 0)) .shutdown).drop (2 - 1) = [] ++ .await 0 true 0 :: [] ∧
      (listOf (listed (.await 0 true 0)) .restart).drop (1 - 1) = [] ++ .await 0 true 0 :: []) ∧
    ((listOf (listed (.fan false)) .shutdown).drop (2 - 1) = [] ++ .fan false :: [] ∧ inputMade mill group0.fanIn ≠ false ∧
      group0.fanTimeout ≠ 0) ∧
    ((listOf (listed (.pause 600)) .restart).drop (1 - 1) = [] ++ .pause 600 :: [] ∧ ¬ (ListKind.restart = .shutdown) ∧
      ∃ x, starting.runner = some x ∧ x.list = .restart) ∧
    (Table.get diverted.gs 0 = some stopped ∧ stopped.state = .stopped ∧ 0 ∈ ductsOfGroup diverted.model 0 ∧
      incidentOf diverted (.duct 0) = none ∧ ∃ g, Table.get diverted.vg.gates 0 = some g ∧ g.state = .diverted) := by
  refine ⟨⟨rfl, rfl, fun st h => ?_⟩, ⟨rfl, .inr (.inr (.inr ⟨_, rfl, .inr rfl⟩))⟩,
    ⟨rfl, rfl, rfl, .inr (.inr (.inl ⟨_, rfl, by decide +kernel⟩)), by decide +kernel, .inl (.inr ⟨_, rfl⟩),
      by decide +kernel⟩, ⟨rfl, by decide +kernel, _, rfl, rfl⟩, ⟨rfl, rfl⟩, ⟨rfl, by decide +kernel, by decide⟩,
    ⟨rfl, by decide, _, rfl, rfl⟩, rfl, rfl, by decide +kernel, rfl, _, rfl, rfl⟩
  have h : st = .drive 9 false ∨ st = .infeed false := by simpa [listed, listOf] using h
  rcases h with rfl | rfl
  · exact passes_drive ..
  · exact .inl (.inr ⟨_, rfl⟩)

theorem test_hyps_DemandsAreTakenByState :
    (mill.lp.mode = .run ∧ Table.get mill.gs 0 = some groupRun ∧ Table.get mill.model.groups 0 = some group0 ∧
      groupRun.isolated = false ∧ groupRun.state = .running ∧ Table.wf mill.gs = true) ∧
    (Table.get (withGroup starting).gs 0 = some starting ∧ starting.state = .starting ∧ starting.runner ≠ none) ∧
    ((pausing .normal).state = .stopping ∧ (pausing .normal).priority = some .normal ∧
      ∃ x, (pausing .normal).runner = some x ∧ group0.shutdown[x.step - 1]? = some (.pause 5)) ∧
    (({ groupRun with isolated := true } : Group).isolated = true) ∧
    (∃ x, (pausing .normal).runner = some x ∧ (listOf group0 x.list)[x.step - 1]? = some (.pause 5) ∧
      HasRunOut x.expiry mill.now) ∧
    (∃ x, starting.runner = some x ∧ (listOf group0 x.list)[x.step - 1]? = some (.fan true) ∧ HasRunOut x.expiry mill.now ∧
      x.expiry ≠ none ∧ group0.fanIn = 2) ∧
    (stopped.state = .stopped ∧ starting.runner.any (fun x => x.fanProven) ≠ true) ∧
    (groupRun.runner = none ∧ mill.lp.mode = .run ∧ millConfig.lp.mode ≠ .run) :=
  ⟨⟨rfl, rfl, rfl, rfl, rfl, rfl⟩, ⟨rfl, rfl, by decide⟩, ⟨rfl, rfl, _, rfl, rfl⟩, rfl, ⟨_, rfl, rfl, out_by rfl⟩,
    ⟨_, rfl, rfl, out_by rfl, by decide, rfl⟩, ⟨rfl, by decide⟩, rfl, rfl, by decide⟩

def warning : Wall := { wallRun with state := .warning, warning := some 5000#32 }
def released : Wall := { wallRun with state := .released }
def openCircuit : Wall := { wallRun with holder := .opened }

/-- A level-3 incident on duct 0 that has stopped its group and begun the warning of its wall. -/
def afire : State :=
  { burning { fire 3 false with actions := [{ kind := .shutdown, target := 0, issuedAt := 4000#32, result := .done },
                                            { kind := .release, target := 0, issuedAt := 4000#32, result := .pending }] } with
    gs := [(0, stopped)], cc := { mill.cc with walls := [(0, warning)] } }

theorem afire_grounded : Grounded afire := by
  refine ⟨by constructor <;> decide +kernel, fun h => absurd rfl h,
    ⟨mill_records.roster, rfl, rfl, rfl, rfl, rfl, rfl, rfl, rfl, rfl, rfl⟩, lab_rises,
    ⟨by decide, by decide, fun g r h => ?_⟩, ?_⟩
  · cases List.mem_singleton.mp h; constructor <;> decide
  · intro i hi a ha
    cases List.mem_singleton.mp hi
    rcases List.mem_cons.mp ha with rfl | h
    · exact ⟨fun _ => ⟨rfl, 0, by decide, duct0, rfl, rfl⟩, fun h => by simp at h⟩
    · cases List.mem_singleton.mp h
      exact ⟨fun h => by simp at h, fun _ => ⟨rfl, wall0, rfl, 0, by decide, .inl rfl⟩⟩

/-- The laws of the groups and of the walls hold where a level-3 incident stands, and do not where its group runs or its wall
is NORMAL. -/
theorem test_hyps_interlocks :
    (Grounded afire ∧ GroupsInterlocked afire ∧ WallsInterlocked afire ∧ ∃ t, step afire = .next t) ∧
    ¬ GroupsInterlocked { afire with gs := mill.gs } ∧ ¬ WallsInterlocked { afire with cc := mill.cc } := by
  refine ⟨⟨afire_grounded, fun _ g r hg _ hr => ?_, fun _ w r e hw _ _ hr => ?_, _, rfl⟩, fun h => ?_, fun h => ?_⟩
  · by_cases h : 0 = g
    · subst h; cases hg; rcases hr with h | h <;> cases h
    · simp [afire, Table.get, h] at hg
  · by_cases h : 0 = w
    · subst h; cases hw; cases hr
    · simp [afire, Table.get, h] at hw
  · exact (h rfl 0 groupRun rfl rfl (.inl rfl) 0 duct0 rfl rfl).1 _ (List.mem_singleton.mpr rfl) ⟨rfl, by decide⟩
  · exact (h rfl 0 wallRun wall0 rfl rfl rfl rfl).1 _ (List.mem_singleton.mpr rfl) ⟨rfl, by decide⟩

theorem test_hyps_WallsReleaseAndRehold :
    (Taken .releaseWall mill ∧ Table.get mill.cc.walls (12#8 : Byte).toNat = none) ∧
    (Table.get mill.cc.walls (0#8 : Byte).toNat = some wallRun ∧ Table.get mill.model.walls (0#8 : Byte).toNat = some wall0 ∧
      wallRun.isolated = false ∧ wallRun.state = .normal ∧ wall0.warning ≠ 0) ∧
    (Taken .releaseWall (withWall warning) ∧ warning.state ≠ .normal) ∧
    (∃ e, Table.get { mill with model := { lab with walls := [(0, { wall0 with warning := 0 })] } }.model.walls 0 = some e ∧
      e.warning = 0) ∧
    (Taken .releaseWall (withWall { wallRun with isolated := true })) ∧
    (Taken .reholdWall (burning (fire 3 false)) ∧ FirstOver (burning (fire 3 false)) wall0.compA (fire 3 false)) ∧
    (Taken .reholdWall mill ∧ ClearOver mill wall0.compA ∧ ∀ c, wall0.compB = some c → ClearOver mill c) ∧
    (Taken .reholdWall (withWall released) ∧ released.state = .released ∧ released.holder = .normal ∧
      Table.get (withWall released).cc.crossings 0 ≠ none) ∧
    (Taken .reholdWall (withWall openCircuit) ∧ openCircuit.holder ≠ .normal) ∧
    (Table.get (withWall warning).cc.walls 0 = some warning ∧ warning.state = .warning ∧ HasRunOut warning.warning mill.now) ∧
    warning.state ≠ .released :=
  ⟨⟨taken_by rfl, rfl⟩, ⟨rfl, rfl, rfl, rfl, by decide⟩, ⟨taken_by rfl, by decide⟩, ⟨_, rfl, rfl⟩, taken_by rfl,
    ⟨taken_by rfl, [], [], rfl, rfl, by decide +kernel, fun _ h => (nomatch h)⟩,
    ⟨taken_by rfl, fun _ h => (nomatch h), fun _ _ _ h => (nomatch h)⟩, ⟨taken_by rfl, rfl, rfl, by decide +kernel⟩,
    ⟨taken_by rfl, by decide⟩, ⟨rfl, rfl, out_by rfl⟩, by decide⟩

theorem test_hyps_WallsReleaseAndRehold_demand :
    (Table.get mill.cc.walls 0 = some wallRun ∧ Table.get mill.model.walls 0 = some wall0) ∧
    (releaseDemand 0 1 mill).2 = .pending ∧ (releaseDemand 0 1 (withWall released)).2 = .done ∧
    (releaseDemand 0 1 (withWall { wallRun with isolated := true })).2 = .isolated :=
  ⟨⟨rfl, rfl⟩, by decide +kernel, by decide +kernel, by decide +kernel⟩

/-- A level-3 incident over compartment 1, wall 0's other side. -/
def otherSide : State := burning { fire 3 false with primary := { (fire 3 false).primary with id := .compartment 1 } }

theorem test_hyps_WallsReleaseAndRehold_other_side :
    ClearOver otherSide wall0.compA ∧ wall0.compB = some 1 ∧ ∃ i, FirstOver otherSide 1 i := by
  refine ⟨fun j hj => ?_, rfl, _, [], [], rfl, rfl, by decide +kernel, fun _ h => (nomatch h)⟩
  cases List.mem_singleton.mp hj; decide +kernel

def doorOf (st : DoorState) : Wall := { released with doors := [{ state := st, expiry := some 5000#32 }] }

theorem test_hyps_DoorsAndDampersAreTimed :
    (∀ st, Table.get (withWall (doorOf st)).cc.walls 0 = some (doorOf st) ∧
      (doorOf st).doors[1 - 1]? = some { state := st, expiry := some 5000#32 } ∧ (doorOf st).state = .released) ∧
    HasRunOut (some 5000#32) mill.now ∧
    (Table.get mill.cc.walls 0 = some wallRun ∧ wallRun.doors[1 - 1]? = some { state := .openHeld, expiry := none } ∧
      wallRun.state ≠ .released) ∧
    (∃ r, Table.get { mill with cc := { mill.cc with crossings := [(0, { state := .closing, expiry := some 5000#32 })] } }.cc.crossings 0 =
      some r ∧ r.state = .closing ∧ HasRunOut r.expiry mill.now) ∧
    (Table.get mill.model.crossings 0 = some crossing0 ∧ Table.get mill.model.walls crossing0.wall = some wall0 ∧
      Table.get mill.cc.crossings 0 = some { state := .opened, expiry := none }) :=
  ⟨fun _ => ⟨rfl, rfl, rfl⟩, out_by rfl, ⟨rfl, rfl, by decide⟩, ⟨_, rfl, rfl, out_by rfl⟩, rfl, rfl, rfl⟩

theorem lab_outputs : OutputHolds mill.model := lab_passes 2

theorem test_hyps_PointsAreDrivenByTheirOwners :
    (Taken .drivePoint mill ∧ (1#8 : Byte).toNat < 2 ∧ OutputHolds mill.model ∧ Table.wf mill.model.ducts = true ∧
      Table.wf mill.model.groups = true) ∧
    (128 ≤ (128#8 : Byte).toNat ∧ (127#8 : Byte).toNat < 128) ∧
    ((∃ d e, (d, e) ∈ mill.model.ducts ∧ e.group = 0 ∧ e.infeedOut = (1#8 : Byte).toNat) ∧
      Table.get mill.gs 0 = some groupRun ∧ groupRun.isolated = false) ∧
    ((0, group0) ∈ mill.model.groups ∧ (∃ a ∈ group0.aux, a.output = (9#8 : Byte).toNat) ∧
      ∀ on, .drive 9 on ∉ group0.shutdown ++ group0.restart) ∧
    ((0, valve0) ∈ mill.model.valves ∧ (0, gate0) ∈ mill.model.gates ∧ (0, wall0) ∈ mill.model.walls ∧
      (0, crossing0) ∈ mill.model.crossings ∧ mill.model.sirens ≠ []) ∧
    (127 < 128 ∧ levelOf mill.pi.out 127 ≠ true ∧ monitorOfOutput mill.model 127 = none ∧
      monitorOfOutput mill.model 2 = some 0 ∧ Table.get mill.model.monitors 0 = some monitor0) :=
  ⟨⟨taken_by rfl, by decide, lab_outputs, rfl, rfl⟩, by decide, ⟨⟨0, duct0, by decide +kernel, rfl, rfl⟩, rfl, rfl⟩,
    ⟨by decide +kernel, by decide, by decide⟩, by decide +kernel, by decide +kernel⟩

def faulted : State :=
  { mill with pi := { mill.pi with
      outChain := { state := .faulted, goodAt := some 5000#32 }, inChain := { state := .faulted, goodAt := some 5000#32 } } }

/-- Point 5, whose debounce time is 20 ms, timed since 20 ms ago. -/
def timed (debounced : Table Bool) (made : Bool) : State :=
  { mill with pi := { mill.pi with
      raw := setLevel 0#128 5 made, debounced := debounced, timing := [(5, 4980#32)] } }

/-- Every point debounced as point 2 made alone. -/
def settled : State := timed ((List.range 128).map fun q => (q, q == 2)) false

/-- The points that a pass of these levels changes and whose debounce time is 0. -/
def immediately (levels : Levels) (s : State) : List Nat :=
  (List.range 128).filter fun p => decide (Table.get s.pi.debounced p ≠ some (levelOf levels p)) && debounceOf s p == 0

theorem test_hyps_ChainsCarryTheInputs :
    (faulted.pi.inChain.state = .faulted ∧ faulted.pi.outChain.state = .faulted ∧
      HasRunOut faulted.pi.inChain.goodAt faulted.now ∧ HasRunOut faulted.pi.outChain.goodAt faulted.now) ∧
    (settled.pi.inChain.state = .good ∧ immediately (setLevel (setLevel 0#128 2 true) 5 true) settled = [] ∧
      immediately (setLevel 0#128 0 true) settled = [0, 2]) ∧
    debounceOf mill 5 ≠ 0 ∧
    (∀ made, Table.get (timed [] made).pi.timing 5 = some 4980#32 ∧
      HasRunOut (some (4980#32 + BitVec.ofNat 32 (debounceOf (timed [] made) 5))) (timed [] made).now) ∧
    (Table.get (timed [] false).pi.debounced 5 = none ∧ levelOf (timed [] false).pi.raw 5 = false) ∧
    (Table.get (timed [] true).pi.debounced 5 = none ∧ levelOf (timed [] true).pi.raw 5 = true) ∧
    (Table.get (timed [(5, true)] false).pi.debounced 5 = some (!false)) :=
  ⟨⟨rfl, rfl, out_by (by decide +kernel), out_by (by decide +kernel)⟩, ⟨rfl, by decide +kernel, by decide +kernel⟩,
    by decide +kernel, fun made => by cases made <;> exact ⟨rfl, out_by (by decide +kernel)⟩, by decide +kernel,
    by decide +kernel, rfl⟩

theorem test_hyps_MonitorsFilterSamples :
    (mill.model.monitors = [] ++ (0, monitor0) :: [(1, { monitor0 with channel := 1 }), (2, { monitor0 with channel := 2 })] ∧
      monitor0.channel = 0 ∧ Table.get mill.cm 0 = some monitorRun ∧ namedBy mill.model 0 = some (.valve, 0, 2) ∧
      monitorRun.blanking = none) ∧
    (namedBy mill.model 1 = some (.wall, 0, 5) ∧ namedBy mill.model 2 = some (.siren, 0, 8) ∧
      Table.get mill.cc.walls 0 = some wallRun ∧ Table.get mill.model.walls 0 ≠ none) ∧
    ((99#10 : BitVec 10).toNat < monitor0.offLow ∧ ¬ (100#10 : BitVec 10).toNat < monitor0.offLow) ∧
    ∃ r, Table.get (withMonitor { monitorRun with blanking := some 5000#32 }).cm 0 = some r ∧ HasRunOut r.blanking mill.now :=
  ⟨by decide +kernel, by decide +kernel, by decide, _, rfl, out_by rfl⟩

def isolatedWall (c : Circuit) : State := withWall { wallRun with isolated := true, holder := c }

theorem test_hyps_IsolationActsOnItsElement :
    (Taken .isolate mill ∧ Taken .restore mill) ∧
    (6 ≤ (6#8 : Byte).toNat ∧ ¬ 6 ≤ (5#8 : Byte).toNat) ∧
    (Taken .restore (withWall warning) ∧ Table.get (withWall warning).cc.walls 0 = some warning ∧ warning.isolated = false ∧
      Taken .restore (withGroup starting) ∧ Table.get (withGroup starting).gs 0 = some starting ∧
      starting.isolated = false) ∧
    (Table.get mill.lc.roster (1#8 : Byte).toNat = some device0 ∧ device0.kind = .detector .upstream ∧
      ∀ r, Table.get mill.lc.roster (10#8 : Byte).toNat = some r → r.kind = .flow) ∧
    (Table.get mill.vg.valves 0 = some valveRun ∧ Table.get mill.vg.gates 0 = some gateRun ∧
      Table.get mill.model.gates 0 = some gate0 ∧ Table.get mill.cc.walls 0 = some wallRun ∧
      Table.get mill.sc.sirens 0 = some sirenRun ∧ Table.get mill.gs 0 = some groupRun ∧ Table.get mill.gs 5 = none) ∧
    (Taken .restore (withSiren { sirenRun with isolated := true }) ∧ (Table.get mill.model.sirens 0).isSome = true) ∧
    (Taken .restore (isolatedWall .opened) ∧ Table.get mill.model.walls 0 = some wall0 ∧
      (∃ w, Table.get (isolatedWall .opened).cc.walls 0 = some w ∧ w.isolated = true ∧ w.state = .normal ∧
        w.holder ≠ .normal)) ∧
    (¬ ClearOver { isolatedWall .normal with it := (burning (fire 3 false)).it } wall0.compA) ∧
    (ClearOver (isolatedWall .normal) 0 ∧ ClearOver (isolatedWall .normal) 1) ∧
    (Taken .restore (withGroup { groupRun with isolated := true }) ∧ groupRun.state = .running ∧
      inputMade mill group0.fanIn = true ∧
      inputMade { mill with pi := { mill.pi with debounced := [] } } group0.fanIn = false) ∧
    (0 ∈ ductsOfGroup mill.model 0 ∧ ¬ ClearOnDuct (burning (fire 3 false)) 0 ∧ ClearOnDuct mill 0) := by
  refine ⟨⟨taken_by rfl, taken_by rfl⟩, by decide, ⟨taken_by rfl, rfl, rfl, taken_by rfl, rfl, rfl⟩,
    ⟨rfl, rfl, fun r h => ?_⟩, ⟨rfl, rfl, rfl, rfl, rfl, rfl, rfl⟩, ⟨taken_by rfl, rfl⟩,
    ⟨taken_by rfl, rfl, _, rfl, rfl, rfl, by decide⟩, fun h => ?_, ⟨fun _ h => (nomatch h), fun _ h => (nomatch h)⟩,
    ⟨taken_by rfl, rfl, by decide +kernel, by decide +kernel⟩, by decide +kernel, fun h => ?_, fun _ h => (nomatch h)⟩
  · cases h; rfl
  · exact h _ (List.mem_singleton.mpr rfl) (by decide +kernel)
  · exact h _ (List.mem_singleton.mpr rfl) (by decide +kernel)

def activeWalk : Walk :=
  { active := true, expiry := some 5000#32, startedAt := some 1000#32, sparks := 1, seen := [1] }

theorem test_hyps_WalksBeginAndEnd :
    (Taken .walkStart mill ∧ Table.get mill.lc.walks (1#8 : Byte).toNat = none ∧
      Table.get mill.lc.walks (0#8 : Byte).toNat = some walkOff) ∧
    (60 < (61#8 : Byte).toNat ∧ (60#8 : Byte).toNat ≤ 60 ∧ 1 ≤ (1#8 : Byte).toNat ∧ (0#8 : Byte).toNat < 1) ∧
    (Taken .walkStart (burning (fire 1 false)) ∧ incidentOf (burning (fire 1 false)) (.duct 0) = some (fire 1 false)) ∧
    (Taken .walkStart (withValve opening) ∧ ∃ v, Table.get (withValve opening).vg.valves 0 = some v ∧ v.queue ≠ []) ∧
    (incidentOf mill (.duct 0) = none ∧ ∀ v, Table.get mill.vg.valves 0 = some v → v.queue = []) ∧
    (Taken .walkEnd mill ∧ walkOff.active = false) ∧
    (Table.get { mill with lc := { mill.lc with walks := [(0, activeWalk)] } }.lc.walks 0 = some activeWalk ∧
      Table.wf mill.lc.roster = true ∧ activeWalk.active = true ∧ HasRunOut activeWalk.expiry mill.now ∧
      Taken .walkEnd { mill with lc := { mill.lc with walks := [(0, activeWalk)] } } ∧ (0#8 : Byte).toNat = 0) := by
  refine ⟨⟨taken_by rfl, rfl, rfl⟩, by decide, ⟨taken_by rfl, by decide +kernel⟩, ⟨taken_by rfl, _, rfl, by decide⟩,
    ⟨rfl, fun v h => ?_⟩, ⟨taken_by rfl, rfl⟩, rfl, by decide +kernel, rfl, out_by rfl, taken_by rfl, rfl⟩
  cases h; rfl

end Sys2Proof.Tests
end

section
/-! The transit figures (03 R43-R49): the velocity bounds stand in order above V_min, so the arrival offsets stand in order
below what the TRANSIT check (01 R13) allows. -/

namespace Sys2Proof.Machine.TransitFigures

/-- "A is before B", as 00_scope.md 3.2 defines it. -/
theorem before_iff (a b : PartTime) : before a b = true ↔ 0 < (b - a).toInt := by simp [before]

/-! ## The rounded-up quotient -/

/-- The rounded-up quotient is the least number whose multiple reaches the dividend. -/
theorem ceilDiv_le_iff (a : Nat) {b n : Nat} (hb : 0 < b) : ceilDiv a b ≤ n ↔ a ≤ n * b := by
  rw [ceilDiv, Nat.div_le_iff_le_mul hb]
  omega

theorem le_ceilDiv_mul (a : Nat) {b : Nat} (hb : 0 < b) : a ≤ ceilDiv a b * b :=
  (ceilDiv_le_iff a hb).1 (Nat.le_refl _)

theorem ceilDiv_mul_lt (a : Nat) {b : Nat} (hb : 0 < b) : ceilDiv a b * b < a + b := by
  have h : ceilDiv a b * b ≤ a + b - 1 := Nat.div_mul_le_self _ _
  omega

theorem ceilDiv_anti (a : Nat) {b c : Nat} (hb : 0 < b) (h : b ≤ c) : ceilDiv a c ≤ ceilDiv a b :=
  (ceilDiv_le_iff a (Nat.lt_of_lt_of_le hb h)).2 (Nat.le_trans (le_ceilDiv_mul a hb) (Nat.mul_le_mul_left _ h))

theorem div_le_ceilDiv (a : Nat) {b : Nat} (hb : 0 < b) : a / b ≤ ceilDiv a b :=
  Nat.div_le_div_right (by omega)

/-! ## The velocity bounds (03 R43) and the arrival offsets (03 R44) -/

/-- The tolerance widens v_f on both sides, and the lower bound is never taken below V_min (03 R43). -/
theorem velocityBounds_ordered {e : DuctEntry} {form : Conveying} {vf hi lo : Nat}
    (h : velocityBounds e form vf = some (hi, lo)) (hmax : e.vMin < e.vMax) (hvf : form = .conveying → e.vMin ≤ vf) :
    e.vMin ≤ lo ∧ lo ≤ hi := by
  cases form with
  | conveying =>
    simp only [velocityBounds, Option.some.injEq, Prod.mk.injEq] at h
    obtain ⟨rfl, rfl⟩ := h
    have below : vf * (100 - e.tolerance) / 100 ≤ vf :=
      Nat.div_le_of_le_mul (by rw [Nat.mul_comm 100]; exact Nat.mul_le_mul_left _ (Nat.sub_le ..))
    have above : vf ≤ vf * (100 + e.tolerance) / 100 :=
      (Nat.le_div_iff_mul_le (by decide)).2 (Nat.mul_le_mul_left _ (Nat.le_add_right ..))
    exact ⟨Nat.le_max_right .., Nat.le_trans (Nat.max_le.2 ⟨below, hvf rfl⟩) above⟩
  | stale =>
    simp only [velocityBounds, Option.some.injEq, Prod.mk.injEq] at h
    obtain ⟨rfl, rfl⟩ := h
    exact ⟨Nat.le_refl _, Nat.le_of_lt hmax⟩
  | slow => simp [velocityBounds] at h

/-- A model that passes TRANSIT (01 R13) lets no spark arrive later than W_max, and its earliest arrival is never after
its latest. -/
theorem arrivalOffsets_within {e : DuctEntry} {form : Conveying} {vf dist : Nat} (hmin : 0 < e.vMin)
    (hmax : e.vMin < e.vMax) (hvf : form = .conveying → e.vMin ≤ vf) (hdist : ceilDiv (dist * 1000) e.vMin ≤ e.wMax) :
    (arrivalOffsets e dist (velocityBounds e form vf)).2 ≤ e.wMax ∧
      (arrivalOffsets e dist (velocityBounds e form vf)).1 ≤ (arrivalOffsets e dist (velocityBounds e form vf)).2 := by
  rcases hb : velocityBounds e form vf with _ | ⟨hi, lo⟩
  · exact ⟨Nat.le_refl _, Nat.zero_le _⟩
  · obtain ⟨hlo, hhi⟩ := velocityBounds_ordered hb hmax hvf
    have lo_pos : 0 < lo := Nat.lt_of_lt_of_le hmin hlo
    exact ⟨Nat.le_trans (ceilDiv_anti _ hmin hlo) hdist,
      Nat.le_trans (Nat.div_le_div_left hhi lo_pos) (div_le_ceilDiv _ lo_pos)⟩

/-! ## The transit record (03 R45-R49) -/

section
variable {e : DuctEntry} {ve : ValveEntry} {v : Velocity} {flowing : Bool} {addr dist : Nat} {t0 now : PartTime}
  {x : Transit} (hx : x = computeTransit e ve v flowing addr dist t0 now)
include hx

/-- A transit with both bounds divides the distance by each: rounded down for the earliest arrival, up for the latest. -/
theorem transit_offsets {hi lo : Nat} (hhi : x.vHi = some hi) (hlo : x.vLo = some lo) :
    x.tE = dist * 1000 / hi ∧ x.tL = ceilDiv (dist * 1000) lo := by
  subst hx
  simp only [computeTransit] at hhi hlo ⊢
  rcases hb : velocityBounds e v.state (v.vf.getD 0) with _ | ⟨h, l⟩
  · simp [hb] at hhi
  · simp only [hb, Option.map_some, Option.some.injEq] at hhi hlo
    subst hhi hlo
    exact ⟨rfl, rfl⟩

theorem transit_missed_iff : x.outcome = .missed ↔ 0 < (now - x.aL).toInt := by
  subst hx
  rw [← before_iff]
  simp only [computeTransit]
  split <;> simp [*]

/-- The window of a spark that is not missed: open LEAD before the earliest arrival but not in the past, closed AFTER-RUN
past the latest. -/
theorem transit_window {o c : PartTime} (h : x.outcome = .queued o c) :
    c = x.aL + ms ve.afterRun ∧ o = if before (x.aE - ms ve.lead) now then now else x.aE - ms ve.lead := by
  subst hx
  simp only [computeTransit] at h ⊢
  split at h
  · cases h
  · simp only [TransitOutcome.queued.injEq] at h
    exact ⟨h.2.symm, h.1.symm⟩

theorem transit_marginal_iff :
    x.marginal = true ↔ x.outcome ≠ .missed ∧ flowing = false ∧ 0 < (now + ms ve.lead - x.aE).toInt := by
  rw [Ne, transit_missed_iff hx, ← before_iff, ← before_iff]
  subst hx
  simp only [computeTransit, Bool.and_eq_true, Bool.not_eq_true', Bool.not_eq_true, and_assoc]

end

end Sys2Proof.Machine.TransitFigures

open Sys2Proof.Machine Sys2Proof.Machine.TransitFigures in
/-- Settles O45: each figure by the equation of `computeTransit`, the bound by the order of the velocity bounds. -/
theorem transitsStayWithinTheirBound : Obligations.TransitsStayWithinTheirBound := by
  rintro e ve v flowing addr dist t0 now vf rfl
  refine ⟨rfl, rfl, rfl, rfl, rfl, fun h => ?conveying, fun h => ?stale, fun h => ?slow,
    fun hi lo hhi hlo hpos => ?offsets, rfl, rfl, transit_missed_iff rfl, fun o c h => ?window, transit_marginal_iff rfl,
    fun hmin hmax _ hvf hdist => ?bound⟩
  case conveying => simp [computeTransit, velocityBounds, h]
  case stale => simp [computeTransit, velocityBounds, h]
  case slow => simp [computeTransit, velocityBounds, arrivalOffsets, h]
  case offsets =>
    obtain ⟨htE, htL⟩ := transit_offsets rfl hhi hlo
    rw [htL]
    exact ⟨htE, le_ceilDiv_mul _ hpos, ceilDiv_mul_lt _ hpos⟩
  case window =>
    simpa only [before_iff, ms] using transit_window rfl h
  case bound =>
    exact arrivalOffsets_within (by omega) hmax hvf hdist

end

section
/-! A flow sensor's answer, from the loop to the duct's velocity (02 R23, R29, R33; 03 R38-R41): what LC does with the
answer, what TC does with its reading, and what the stale expiry leaves. -/

namespace Sys2Proof.Machine.FlowReadings

/-! ## Notices posted in turn (11 R177) -/

/-- A notice moves LP by LP's record and the part time alone. -/
theorem postNotice_lp_congr {s t : State} (c : NoticeClass) (b : NoticeBody) (hlp : s.lp = t.lp) (hnow : s.now = t.now) :
    (postNotice c b s).lp = (postNotice c b t).lp := by
  simp only [postNotice, hlp, hnow]

/-- A notice posted after others stands behind them. -/
theorem postNotice_posted {s u : State} {l : List (NoticeClass × NoticeBody)} (c : NoticeClass) (b : NoticeBody)
    (hnow : u.now = s.now) (h : u.lp = posted l s) : (postNotice c b u).lp = posted (l ++ [(c, b)]) s := by
  have kept := foldl_keeps (f := fun t (n : NoticeClass × NoticeBody) => postNotice n.1 n.2 t) State.now
    (fun _ _ => rfl) l s
  rw [posted, List.foldl_append, List.foldl_cons, List.foldl_nil]
  exact postNotice_lp_congr c b h (hnow.trans kept.symm)

/-! ## The end of a command -/

/-- The lines are in no frame. -/
theorem settleLines_frame {ch : List Block} {s t : State} (h : Frame ch s t) : Frame ch s (settleLines t) :=
  ⟨h.now, h.pending, h.lp, h.tables, h.model, h.lc, h.tc, h.vg, h.it, h.gs, h.cc, h.sc, h.pi, h.cm⟩

/-- A command taken by a reaction of the blocks completes as an event. -/
theorem happens_of_reacts {c : Instr} {s t : State} {ch : List Block} {post : State → Prop} (hc : exec c s = taken t)
    (h : Reacts ch s t) (hpost : post (settleLines t)) : Happens c s ch post :=
  ⟨settleLines t, hc, settleLines_frame h.frame, hpost⟩

theorem exec_flowSensorAnswer (addr : LoopAddr) (raw : BitVec 16) (s : State) :
    exec (.flowSensorAnswer addr raw) s = taken (takeFlowAnswer addr.toNat raw.toNat s) := rfl

theorem exec_staleExpiry (d : Nat) (s : State) : exec (.staleExpiry d) s = taken (staleRunsOut d s) := rfl

/-! ## The answer in LC (02 R23, R29, R33) -/

/-- The state an answer gives a flow sensor's record, which an ISOLATED one does not take (02 R23). -/
def answeredState (r : Device) : DeviceState := if r.state = .isolated then .isolated else .normal

/-- The notice of the state a flow sensor's record takes (02 R23). -/
def answerNotices (a : Nat) (r : Device) : List (NoticeClass × NoticeBody) :=
  if r.state = answeredState r then [] else [(.state, .deviceState a r.state .normal)]

theorem goodFrame_of_up {s : State} (h : s.lc.state = .up) :
    goodFrame s = { s with lc := { s.lc with silence := some (s.now + ms Config.silenceTime) } } := by
  simp only [goodFrame, h]

theorem autoIssue_of_up {s : State} (h : s.lc.state = .up) :
    autoIssue s = { s with lc := { s.lc with slot := issued s.now s.lc.slot s.lc.autoReads } } := by
  unfold autoIssue
  split
  case h_1 a rest _ hslot hreads => rw [hslot, hreads]; rfl
  case h_2 none_enters =>
    have kept : issued s.now s.lc.slot s.lc.autoReads = s.lc.slot := by
      rcases hslot : s.lc.slot with _ | c
      · rcases hreads : s.lc.autoReads with _ | ⟨a, rest⟩
        · rfl
        · exact (none_enters a rest h hslot hreads).elim
      · rfl
    rw [kept]

/-- A flow sensor's record is of no duct's blindness (02 R31): its answer moves the record and posts its change alone. -/
theorem answerState_flow {s : State} {a : Nat} {r : Device} (hr : Table.get s.lc.roster a = some r)
    (hk : r.kind = .flow) :
    answerState a .normal s = if r.state = answeredState r then s
      else postNotice .state (.deviceState a r.state .normal) (updDevice a (fun r => { r with state := .normal }) s) := by
  by_cases hi : r.state = .isolated
  · simp [answerState, hr, answeredState, hi]
  · simp [answerState, setDevice, hr, answeredState, hi, hk]

/-- What LC makes of a flow sensor's answer while the loop is UP, but for the record's state and the command slot. -/
def answerCounted (a : Nat) (s : State) : State :=
  updDevice a (fun r => { r with misses := 0 }) (goodFrame (closeSlot a s))

theorem answerCounted_of_up {s : State} (a : Nat) (h : s.lc.state = .up) : answerCounted a s = { s with lc := { s.lc with
    silence := some (s.now + ms Config.silenceTime), answerSlot := s.lc.answerSlot.filter fun b => b ≠ a,
    roster := Table.modify s.lc.roster a fun r => { r with misses := 0 } } } := by
  rw [answerCounted, goodFrame_of_up (s := closeSlot a s) h]
  rfl

/-- A flow sensor's answer in LC, with the loop UP (02 R23, R29, R33). -/
theorem pollAnswered_flow {s : State} {a : Nat} {r : Device} (hup : s.lc.state = .up)
    (hr : Table.get s.lc.roster a = some r) (hk : r.kind = .flow) :
    let u := autoIssue (pollAnswered a .normal id s)
    FlowAnswered a r (answeredState r) s u ∧ u.lp = posted (answerNotices a r) s := by
  have record : Table.get (answerCounted a s).lc.roster a = some { r with misses := 0 } := by
    simp [answerCounted_of_up a hup, hr]
  have answer : pollAnswered a .normal id s = if r.state = answeredState r then answerCounted a s
      else postNotice .state (.deviceState a r.state .normal)
        (updDevice a (fun r => { r with state := .normal }) (answerCounted a s)) :=
    answerState_flow (r := { r with misses := 0 }) record hk
  rw [answer, answerNotices]
  rw [answerCounted_of_up a hup] at record ⊢
  by_cases hs : r.state = answeredState r
  · rw [if_pos hs, if_pos hs, autoIssue_of_up (by exact hup)]
    exact ⟨⟨rfl, hs ▸ record, fun b hb => by simp [Table.get_modify_other _ _ hb]⟩, rfl⟩
  · have normal : answeredState r = .normal := if_neg fun hi => hs (hi.trans (if_pos hi).symm)
    rw [if_neg hs, if_neg hs, autoIssue_of_up (by exact hup)]
    refine ⟨⟨rfl, ?_, fun b hb => ?_⟩, rfl⟩
    · simp [hr, normal]
    · simp [Table.get_modify_other _ _ hb]

theorem takeFlowAnswer_flow {s : State} {a : Nat} {r : Device} (raw : Nat) (hup : s.lc.state = .up)
    (hr : Table.get s.lc.roster a = some r) (hk : r.kind = .flow) :
    takeFlowAnswer a raw s =
      let u := autoIssue (pollAnswered a .normal id s)
      if u.lp.mode = .run then takeReading r.duct raw u else u := by
  simp only [takeFlowAnswer, hup, hr, hk]

/-! ## The filter (03 R38) -/

/-- A quotient truncated toward zero lies between zero and its dividend. -/
theorem tdiv_between (a : Int) {n : Int} (hn : 0 ≤ n) : min 0 a ≤ a.tdiv n ∧ a.tdiv n ≤ max 0 a := by
  rcases Int.le_total 0 a with ha | ha
  · have low := Int.tdiv_nonneg ha hn
    have high := Int.tdiv_le_self n ha
    omega
  · have flip : a.tdiv n = -(-a).tdiv n := by rw [Int.neg_tdiv, Int.neg_neg]
    have low := Int.tdiv_nonneg (Int.neg_nonneg_of_nonpos ha) hn
    have high := Int.tdiv_le_self n (Int.neg_nonneg_of_nonpos ha)
    omega

/-- The step of the filter lies between zero and the way from the old velocity to the reading. -/
theorem filterStep_between (k old reading : Nat) :
    min 0 ((reading : Int) - old) ≤ ((reading : Int) - old).tdiv (2 ^ k) ∧
      ((reading : Int) - old).tdiv (2 ^ k) ≤ max 0 ((reading : Int) - old) :=
  tdiv_between _ (Int.pow_nonneg (by decide))

theorem filterVelocity_some (k old reading : Nat) : (filterVelocity k (some old) reading : Int) =
    old + ((reading : Int) - old).tdiv (2 ^ k) := by
  obtain ⟨low, high⟩ := filterStep_between k old reading
  exact Int.toNat_of_nonneg (by omega)

theorem filterVelocity_between (k old reading : Nat) :
    min old reading ≤ filterVelocity k (some old) reading ∧ filterVelocity k (some old) reading ≤ max old reading := by
  obtain ⟨low, high⟩ := filterStep_between k old reading
  have := filterVelocity_some k old reading
  omega

/-! ## The conveying state (03 R39-R41) -/

/-- The notice of a change of a duct's conveying state, with the figures of its record (03 R40). -/
def flowNotices (d : Nat) (new : Conveying) (v : Velocity) : List (NoticeClass × NoticeBody) :=
  if new = v.state then [] else [(.state, .ductFlow d v.state new v.vf v.readAt)]

/-- Deciding a duct's conveying state again touches its record alone, and posts a change. -/
theorem decideFlow_decides {s u : State} {l : List (NoticeClass × NoticeBody)} {d : Nat} {v : Velocity} {e : DuctEntry}
    (hv : Table.get u.tc d = some v) (he : Table.get u.model.ducts d = some e) (hnow : u.now = s.now)
    (hlp : u.lp = posted l s) :
    Table.get (decideFlow d u).tc d = some { v with state := classify e.vMin v } ∧
    (∀ x, x ≠ d → Table.get (decideFlow d u).tc x = Table.get u.tc x) ∧
    (decideFlow d u).lp = posted (l ++ flowNotices d (classify e.vMin v) v) s := by
  simp only [decideFlow, hv, he, flowNotices]
  split
  case isTrue same => exact ⟨by rw [same]; exact hv, fun _ _ => rfl, by rw [List.append_nil]; exact hlp⟩
  case isFalse =>
    exact ⟨by simp [hv], fun x hx => by simp [Table.get_modify_other _ _ hx], postNotice_posted _ _ hnow hlp⟩

/-- A duct's record changed and its conveying state decided again: the one move of TC at a reading and at a stale
expiry. -/
theorem decideFlow_updVelocity {s u : State} {l : List (NoticeClass × NoticeBody)} {d : Nat} {v : Velocity} {e : DuctEntry}
    (f : Velocity → Velocity) (hv : Table.get u.tc d = some v) (he : Table.get u.model.ducts d = some e)
    (hnow : u.now = s.now) (hlp : u.lp = posted l s) :
    let t := decideFlow d (updVelocity d f u)
    Table.get t.tc d = some { f v with state := classify e.vMin (f v) } ∧
    (∀ x, x ≠ d → Table.get t.tc x = Table.get u.tc x) ∧
    t.lp = posted (l ++ flowNotices d (classify e.vMin (f v)) (f v)) s := by
  have hf : Table.get (updVelocity d f u).tc d = some (f v) := by simp [hv]
  obtain ⟨record, others, lp⟩ := decideFlow_decides hf he hnow hlp
  exact ⟨record, fun x hx => (others x hx).trans (Table.get_modify_other _ _ hx), lp⟩

/-- A duct's record once it has taken a reading, but for its conveying state (03 R38, R39). -/
def readingTaken (e : DuctEntry) (raw : Nat) (now : PartTime) (v : Velocity) : Velocity :=
  { v with
    vf := some (filterVelocity e.shift v.vf (min raw 6000)), raw := some (min raw 6000), readAt := some now,
    stale := some (now + ms e.staleTime) }

theorem takeReading_eq {s : State} {d : Nat} {e : DuctEntry} (raw : Nat) (he : Table.get s.model.ducts d = some e) :
    takeReading d raw s = decideFlow d (updVelocity d (readingTaken e raw s.now) s) := by
  simp only [takeReading, he]
  rfl

/-- An expiry is due when it has run out, as 00_scope.md 3.2 compares part times. -/
theorem due_iff (x : Option PartTime) (now : PartTime) : due x now = true ↔ HasRunOut x now := by
  cases x <;> simp [due, before, HasRunOut]

theorem staleRunsOut_eq {s : State} {d : Nat} {v : Velocity} (hv : Table.get s.tc d = some v)
    (hd : HasRunOut v.stale s.now) :
    staleRunsOut d s = decideFlow d (updVelocity d (fun v => { v with stale := none }) s) := by
  simp only [staleRunsOut, hv]
  exact if_pos ((due_iff ..).2 hd)

/-- A record whose stale expiry is stopped is STALE (03 R40). -/
theorem classify_stopped (vMin : Nat) (v : Velocity) : classify vMin { v with stale := none } = .stale := by
  cases v.vf <;> rfl

/-! ## The events -/

/-- Of the two states only LC's record counts. -/
theorem flowAnswered_of_lc {a : Nat} {r : Device} {state : DeviceState} {s t u : State}
    (h : FlowAnswered a r state s u) (lc : t.lc = u.lc) : FlowAnswered a r state s t :=
  ⟨by rw [lc]; exact h.lc, by rw [lc]; exact h.record, by rw [lc]; exact h.others⟩

section
variable {s : State} {addr : LoopAddr} {r : Device} (hup : s.lc.state = .up)
  (hr : Table.get s.lc.roster addr.toNat = some r) (hk : r.kind = .flow)
include hup hr hk

/-- In RUN the reading goes to TC once LC has taken the answer (02 R23; 03 R38-R41). -/
theorem flowSensorAnswer_in_run (raw : BitVec 16) {e : DuctEntry} {v : Velocity} (hrun : s.lp.mode = .run)
    (hv : Table.get s.tc r.duct = some v) (he : Table.get s.model.ducts r.duct = some e) :
    let w := readingTaken e raw.toNat s.now v
    Happens (.flowSensorAnswer addr raw) s [.lp, .lc, .tc] fun t =>
      Table.get t.tc r.duct = some { w with state := classify e.vMin w } ∧
      (∀ d, d ≠ r.duct → Table.get t.tc d = Table.get s.tc d) ∧
      FlowAnswered addr.toNat r (answeredState r) s t ∧
      t.lp = posted (answerNotices addr.toNat r ++ flowNotices r.duct (classify e.vMin w) w) s := by
  obtain ⟨answered, lp⟩ := pollAnswered_flow hup hr hk
  have answer := takeFlowAnswer_flow raw.toNat hup hr hk
  have reacts := (pollAnswered_reacts addr.toNat .normal id s).then (autoIssue_reacts _)
  generalize autoIssue (pollAnswered addr.toNat .normal id s) = u at answered lp answer reacts
  have tc : u.tc = s.tc := reacts.frame.tc (by simp)
  have model : u.model = s.model := reacts.frame.model (by simp)
  have entry : Table.get u.model.ducts r.duct = some e := by rw [model]; exact he
  have run : u.lp.mode = .run := reacts.reports.mode.trans hrun
  have lc : (takeReading r.duct raw.toNat u).lc = u.lc := (takeReading_reacts ..).frame.lc (by simp)
  have velocity : Table.get u.tc r.duct = some v := by rw [tc]; exact hv
  obtain ⟨record, others, notices⟩ := decideFlow_updVelocity (readingTaken e raw.toNat u.now) velocity entry
    reacts.frame.now lp
  rw [← takeReading_eq raw.toNat entry] at record others notices
  rw [reacts.frame.now] at record notices
  refine happens_of_reacts (exec_flowSensorAnswer ..) (takeFlowAnswer_reacts ..) ?_
  simp only [answer, if_pos run]
  exact ⟨record, fun d hd => (others d hd).trans (by rw [tc]), flowAnswered_of_lc answered lc, notices⟩

/-- Outside RUN a flow sensor's answer ends in LC (02 R23). -/
theorem flowSensorAnswer_outside_run (raw : BitVec 16) (hrun : s.lp.mode ≠ .run) :
    Happens (.flowSensorAnswer addr raw) s [.lp, .lc] fun t =>
      FlowAnswered addr.toNat r (answeredState r) s t ∧ t.lp = posted (answerNotices addr.toNat r) s := by
  obtain ⟨answered, lp⟩ := pollAnswered_flow hup hr hk
  have answer := takeFlowAnswer_flow raw.toNat hup hr hk
  have reacts := (pollAnswered_reacts addr.toNat .normal id s).then (autoIssue_reacts _)
  have outside : (autoIssue (pollAnswered addr.toNat .normal id s)).lp.mode ≠ .run := by
    rw [reacts.reports.mode]; exact hrun
  refine happens_of_reacts (exec_flowSensorAnswer ..) ?_ ?_ <;> simp only [answer, if_neg outside]
  · exact reacts
  · exact ⟨flowAnswered_of_lc answered rfl, lp⟩

end

/-- The stale expiry that runs out leaves the duct STALE with its figures (03 R39, R40). -/
theorem staleExpiry_runs_out {s : State} {d : Nat} {v : Velocity} {e : DuctEntry} (hv : Table.get s.tc d = some v)
    (he : Table.get s.model.ducts d = some e) (hd : HasRunOut v.stale s.now) :
    Happens (.staleExpiry d) s [.lp, .tc] fun t =>
      Table.get t.tc d = some { v with stale := none, state := .stale } ∧
      (∀ x, x ≠ d → Table.get t.tc x = Table.get s.tc x) ∧ t.lp = posted (flowNotices d .stale v) s := by
  refine happens_of_reacts (exec_staleExpiry ..) (staleRunsOut_reacts ..) ?_
  rw [staleRunsOut_eq hv hd]
  obtain ⟨record, others, notices⟩ := decideFlow_updVelocity (l := []) (fun v => { v with stale := none }) hv he rfl rfl
  rw [classify_stopped] at record notices
  exact ⟨record, others, notices⟩

end Sys2Proof.Machine.FlowReadings

open Sys2Proof Sys2Proof.Machine Sys2Proof.Machine.FlowReadings in
/-- Settles O44: LC's part and TC's part of a flow sensor's answer, the filter's arithmetic, and the stale expiry. -/
theorem readingsMoveTheVelocity : Obligations.ReadingsMoveTheVelocity := by
  refine ⟨fun s addr raw r e v hup hrun hr hk hv he => ?answer,
    fun s addr raw r hup hrun hr hk => flowSensorAnswer_outside_run hup hr hk raw hrun, fun d s v hv he hd => ?stale⟩
  case answer =>
    refine ⟨_, _, flowSensorAnswer_in_run hup hr hk raw hrun hv he, rfl, fun h => ?first, fun old h => ?later⟩
    case first => rw [h]; rfl
    case later =>
      rw [h]
      exact ⟨filterVelocity_some .., filterVelocity_between ..⟩
  case stale =>
    obtain ⟨e, he⟩ := Option.ne_none_iff_exists'.1 he
    simpa only [flowNotices, @eq_comm _ Conveying.stale] using staleExpiry_runs_out hv he hd

end
